-- ==== Sys2Proof/Word.lean ====
section
/-! DEFINITION. The words of the block: every value is unsigned, bit 0 is the least significant bit
(00_scope.md R8), and arithmetic on an N-bit register wraps (R9), which is `BitVec`'s. -/

namespace Sys2Proof

/-- A register of the window, and the bus data word (10_state.md R28). -/
abbrev Word := BitVec 32

/-- One byte: an identifier field (R31), a byte of the reading (R33). -/
abbrev Byte := BitVec 8

/-- The acquisition buffer SHIFT: 40 bits, five bytes (10_state.md R35). -/
abbrev Buffer := BitVec 40

/-- A code of STATE, RESULT or PEND: 4 bits (10_state.md R35). -/
abbrev Code := BitVec 4

/-- A byte offset in the window, OFF of the host operation word (30_encoding.md R80). -/
abbrev Offset := BitVec 5

/-- A host operation word as the spec writes it, ten hexadecimal digits: 38 bits of the operation
below two bits that are 0 (30_encoding.md R80). -/
abbrev HowWord := BitVec 40

end Sys2Proof
end

