-- ==== Sys2Proof/Config.lean ====
section
/-! DEFINITION. What the spec leaves to the implementation (00_scope.md R6, rows marked OPEN) and the
free values: constants without a body, so that no proof can see what they are. Also the vocabulary of
the environment's inputs (10_state.md R20, R21), which the free schedule draws from. -/

namespace Sys2Proof

/-- The parameters the block's rules take as an argument (00_scope.md R6). -/
structure Params where
  /-- THRESHOLD of `classify` (42_bit_acquisition.md R162). -/
  threshold : Word
  /-- VALID_PIN on an 8-bit PIN_ID (40_host_interface.md R113). -/
  validPin : Byte → Bool
  /-- VALID_TIMER on an 8-bit TIMER_ID (40_host_interface.md R113). -/
  validTimer : Byte → Bool
  /-- BIT_WAIT_LIMIT (42_bit_acquisition.md R167). -/
  bitWaitLimit : Option Word

/-- One access of a bus master at a bus address (20_memory.md R60, R61): its direction, address, width in
bytes, and write data (the low 32 bits; only a 32-bit access is supported, R63). -/
structure BusAccess where
  write : Bool
  addr : Nat
  bytes : Nat
  data : Word
  deriving DecidableEq, Repr, Inhabited

/-- What the environment can make happen next (10_state.md R20, R21): a turn of ENGINE, a TICK, a HOST
access (as a host operation word, or as a bus access at an address), or RESET. -/
inductive Input where
  | engine
  | tick
  | host (w : HowWord)
  | bus (a : BusAccess)
  | reset
  deriving DecidableEq, Repr, Inhabited

/-- A HOST step, given as a host operation word or as a bus access (10_state.md R25, 20_memory.md R61). -/
def Input.isHost (x : Input) : Bool :=
  match x with
  | .host _ => true
  | .bus _ => true
  | .engine => false
  | .tick => false
  | .reset => false

/-- THRESHOLD is OPEN (00_scope.md R6, 92_eei_decisions.md D15). Assumption 5. -/
opaque Config.threshold : Word

/-- VALID_PIN is OPEN (00_scope.md R6, D13). Assumption 5. -/
opaque Config.validPin : Byte → Bool

/-- VALID_TIMER is OPEN (00_scope.md R6, D13). Assumption 5. -/
opaque Config.validTimer : Byte → Bool

/-- BASE is OPEN but for its alignment (20_memory.md R61, D3): BASE is 32 times this. Assumption 5. -/
opaque Config.baseIndex : Nat

/-- BASE, the window's bus address: a multiple of 32 (20_memory.md R61). -/
def Config.base : Nat := 32 * Config.baseIndex

/-- F_CLK, the engine step rate, is OPEN and no rule depends on it (00_scope.md R6, D22). -/
opaque Config.fClk : Nat

/-- This hardware's parameters. BIT_WAIT_LIMIT = none is fixed: both bit waits are unbounded
(00_scope.md R6, 42_bit_acquisition.md R167, D17). Assumption 6. -/
def Config.hw : Params :=
  { threshold := Config.threshold, validPin := Config.validPin,
    validTimer := Config.validTimer, bitWaitLimit := none }

/-- Who moves next when no input is pending: any agent may (10_state.md R21). A free value, drawn by the
counter `State.draws`. Assumption 1. -/
opaque Config.freeInput : Nat → Input

/-- The level a `Sample()` returns when LINE has no answer pending: a free draw under no law
(10_state.md R24, D31). Assumption 2. -/
opaque Config.freeSample : Nat → Bool

/-- `pack(v, i, b)` for `i` above 39, outside the domain 42_bit_acquisition.md R163 gives it: the spec
states no value, so it is free. Assumption 8. -/
opaque Config.packOutside : Buffer → BitVec 6 → Bool → Buffer

end Sys2Proof
end

