-- ==== Sys2Proof/Machine/Codes.lean ====
section
/-! DEFINITION. The numbers the spec fixes: STATE codes (30_encoding.md R86), RESULT codes (R87), CMD codes
(R84), window offsets (20_memory.md R61), and the constants of 00_scope.md R6. -/

namespace Sys2Proof.Machine

abbrev St.idle : Code := 0
abbrev St.start : Code := 1
abbrev St.ackA : Code := 2
abbrev St.ackB : Code := 3
abbrev St.ackC : Code := 4
abbrev St.bitHigh : Code := 5
abbrev St.bitLow : Code := 6
abbrev St.check : Code := 7
abbrev St.done : Code := 8
abbrev St.error : Code := 9

abbrev Res.none : Code := 0
abbrev Res.ok : Code := 1
abbrev Res.cfgInvalidPort : Code := 2
abbrev Res.cfgInvalidTimer : Code := 3
abbrev Res.cfgZeroTimeout : Code := 4
abbrev Res.rdTimeout : Code := 5
abbrev Res.rdChecksum : Code := 6
abbrev Res.rdNotInit : Code := 7

/-- The codes 8 to 15 are reserved (30_encoding.md R87). -/
def Res.reserved (c : Code) : Bool := 8 ≤ c.toNat

abbrev Cmd.nop : BitVec 2 := 0
abbrev Cmd.init : BitVec 2 := 1
abbrev Cmd.read : BitVec 2 := 2
abbrev Cmd.rsvd : BitVec 2 := 3

abbrev Off.ctrl : Offset := 0x00
abbrev Off.status : Offset := 0x04
abbrev Off.config : Offset := 0x08
abbrev Off.timeout : Offset := 0x0C
abbrev Off.data0 : Offset := 0x10
abbrev Off.data1 : Offset := 0x14
abbrev Off.rsvd18 : Offset := 0x18
abbrev Off.rsvd1C : Offset := 0x1C

/-- START_LOW_TICKS: 20 ms at 1 tick per microsecond (00_scope.md R6). -/
abbrev startLowTicks : BitVec 16 := 20000

/-- NBITS: the bits of one transaction (00_scope.md R6). -/
abbrev nbits : BitVec 6 := 40

end Sys2Proof.Machine
end

