-- ==== Sys2Proof/Machine/State.lean ====
section
/-! DEFINITION. The machine's state as plain data: `Block` is the spec's state, element by element
(10_state.md R28, R35, R36), and `State` adds what the environment has pending and what the run has shown. -/

namespace Sys2Proof.Machine

/-- The state of the block: exactly the elements of 10_state.md R35 (CTRL has no storage, R29; STATUS and
BUSY are derived, R30, R37). -/
structure Block where
  /-- STATE: the control point, codes of 30_encoding.md R86. -/
  state : Code
  /-- BITIDX: bits acquired so far. -/
  bitidx : BitVec 6
  /-- POLLS: remaining polling budget of the current wait. -/
  polls : Word
  /-- DLY: ticks elapsed in START. -/
  dly : BitVec 16
  /-- CNT: the tick counter. -/
  cnt : Word
  /-- RUN: the timer is counting. -/
  run : Bool
  /-- SHIFT: the 40-bit acquisition buffer. -/
  shift : Buffer
  /-- PEND: the result code to report from ERROR. -/
  pend : Code
  /-- ACT_PIN: PIN_ID latched at the last successful INIT. -/
  actPin : Byte
  /-- ACT_TIMER: TIMER_ID latched at the last successful INIT. -/
  actTimer : Byte
  /-- ACT_TIMEOUT: TIMEOUT latched at the last successful INIT. -/
  actTimeout : Word
  /-- INITIALIZED: a valid configuration is latched. -/
  initialized : Bool
  /-- VALID: DATA0 and DATA1 hold a validated reading. -/
  valid : Bool
  /-- RESULT: result code of the most recent completed command. -/
  result : Code
  /-- DATA0: bytes 0 to 3 of the reading (R33). -/
  data0 : Word
  /-- DATA1: byte 4 of the reading (R34). -/
  data1 : Word
  /-- CONFIG.PIN_ID, bits [7:0] (R31). -/
  cfgPin : Byte
  /-- CONFIG.TIMER_ID, bits [15:8] (R31). Bits [31:16] have no storage (30_encoding.md R82). -/
  cfgTimer : Byte
  /-- TIMEOUT: the staging copy of the budget (R32). -/
  timeout : Word
  /-- LINE_OE: the line is in output mode. -/
  lineOe : Bool
  /-- LINE_OUT: the output level when LINE_OE = 1. -/
  lineOut : Bool
  deriving DecidableEq, Repr

/-- What a run shows besides the line port (10_state.md R41): a value returned by `BusRead`, or a sample event
`(STATE, value)` (R24). -/
inductive Obs where
  | busRead (off : Offset) (value : Word)
  | sample (state : Code) (level : Bool)
  deriving DecidableEq, Repr

/-- The block in its environment. `blk` is the spec's state; the other fields are the model's own
(assumptions 1 to 4). -/
structure State where
  /-- The spec's state. -/
  blk : Block
  /-- Pending inputs, the next first: who takes the next steps (10_state.md R21). -/
  agenda : List Input
  /-- LINE's pending answers, the next first (10_state.md R24). -/
  line : List Bool
  /-- Index of the next free draw (assumptions 1 and 2). -/
  draws : Nat
  /-- What the run has shown, newest first (10_state.md R24, R41). -/
  history : List Obs
  deriving DecidableEq, Repr

/-- Why the machine stops with a fault. -/
inductive Fault where
  /-- An ENGINE step from a STATE code 10 to 15 (93_implementation_defined.md section 2). Raised by the decoder
  of STATE, in Step.lean. Safe: no rule writes such a code, so no run from reset reaches it. -/
  | reservedState (c : Code)
  /-- An ERROR step whose PEND is 8 to 15, which would produce a reserved RESULT code (93 section 2). Raised by
  `execStepError`. Safe: no rule writes such a code into PEND, so no run from reset reaches it. -/
  | reservedResult (c : Code)
  deriving DecidableEq, Repr

/-- Why a step has no meaning. -/
inductive Refusal where
  /-- An arm of exec that has no meaning yet. Safe. -/
  | notModelled (mnemonic : String)
  /-- A host operation at an offset that is no multiple of 4 (20_memory.md R63, 40_host_interface.md R118):
  BAD_ACCESS_RESPONSE is OPEN. Raised by the three MISALIGNED meanings. Safe. -/
  | misalignedAccess (we : Bool) (off : Offset)
  /-- A bus access that is not 32 bits wide (20_memory.md R63). Raised by the fetch of a bus access. Safe. -/
  | unsupportedWidth (bytes : Nat)
  /-- A bus access at an address outside BASE to BASE+31 (20_memory.md R63). Raised by the fetch of a bus
  access. Safe. -/
  | outsideWindow (addr : Nat)
  /-- A 40-bit word whose top two bits are not 0 is no host operation word (30_encoding.md R80). Raised by the
  decoder, in Step.lean. Safe. -/
  | notAHostOperation (w : HowWord)
  deriving DecidableEq, Repr

/-- Every element at its value of 10_state.md R38. -/
def Block.reset : Block :=
  { state := St.idle, bitidx := 0, polls := 0, dly := 0, cnt := 0, run := false, shift := 0,
    pend := Res.none, actPin := 0, actTimer := 0, actTimeout := 0, initialized := false, valid := false,
    result := Res.none, data0 := 0, data1 := 0, cfgPin := 0, cfgTimer := 0, timeout := 0,
    lineOe := false, lineOut := true }

/-- The machine right after reset: the block as R38 says, nothing pending, nothing shown (assumption 3). -/
def State.reset : State :=
  { blk := Block.reset, agenda := [], line := [], draws := 0, history := [] }

end Sys2Proof.Machine
end

