-- ==== Sys2Proof/Machine/Operands.lean ====
section
/-! DEFINITION. The pure functions of 00_scope.md R11 (`classify`, `pack`, `byte_k`, `checksum_ok`) and the
assembly of operands (30_encoding.md R82). -/

namespace Sys2Proof.Machine

/-- PIN_ID of a write to CONFIG: DATA[7:0] (30_encoding.md R82). -/
def pinField (data : Word) : Byte := data.extractLsb' 0 8

/-- TIMER_ID of a write to CONFIG: DATA[15:8] (30_encoding.md R82). -/
def timerField (data : Word) : Byte := data.extractLsb' 8 8

/-- `classify(t)`: 1 if t > THRESHOLD, unsigned and strict, else 0 (42_bit_acquisition.md R162). -/
def classify (threshold t : Word) : Bool := threshold.toNat < t.toNat

/-- A buffer with one 1, at bit `n`. -/
def bitMask (n : Nat) : Buffer := 1#40 <<< n

/-- `pack(v, i, b)` for i in 0..39: bit 39 - i of v becomes b (42_bit_acquisition.md R163). -/
def packAt (v : Buffer) (i : Nat) (b : Bool) : Buffer :=
  (v &&& ~~~ bitMask (39 - i)) ||| (if b then bitMask (39 - i) else 0)

/-- `pack(v, i, b)`; outside the rule's domain the value is free (assumption 8). -/
def pack (v : Buffer) (i : BitVec 6) (b : Bool) : Buffer :=
  if i.toNat ≤ 39 then packAt v i.toNat b else Config.packOutside v i b

/-- `byte_k(v)` = v[39-8k : 32-8k] for k = 0..4 (43_checksum_and_completion.md R181). -/
def byteK (k : Nat) (v : Buffer) : Byte := v.extractLsb' (32 - 8 * k) 8

/-- The sum of bytes 0 to 3, over naturals (43_checksum_and_completion.md R181). -/
def byteSum (v : Buffer) : Nat :=
  (byteK 0 v).toNat + (byteK 1 v).toNat + (byteK 2 v).toNat + (byteK 3 v).toNat

/-- `checksum_ok(v)` (43_checksum_and_completion.md R181). -/
def checksumOk (v : Buffer) : Bool := byteSum v % 256 == (byteK 4 v).toNat

/-- `{byte_3, byte_2, byte_1, byte_0}` (43_checksum_and_completion.md R183). -/
def readingLow (v : Buffer) : Word := byteK 3 v ++ byteK 2 v ++ byteK 1 v ++ byteK 0 v

/-- `zext_32(byte_4)` (43_checksum_and_completion.md R183). -/
def readingHigh (v : Buffer) : Word := (byteK 4 v).setWidth 32

/-- The byte on lane j of a bus word: bits [8j+7:8j] (20_memory.md R64). -/
def byteLane (j : Nat) (v : Word) : Byte := v.extractLsb' (8 * j) 8

end Sys2Proof.Machine
end

