-- ==== Sys2Proof/Machine/Flags.lean ====
section
/-! DEFINITION. The derived flags and words: BUSY (10_state.md R37), the open-drain line (R36), and the words
register reads return (30_encoding.md R83). The block has no arithmetic condition codes (R37). -/

namespace Sys2Proof.Machine

/-- BUSY: STATE is not IDLE (10_state.md R30, R37). -/
def Block.busy (b : Block) : Bool := b.state != St.idle

/-- The block pulls the line low exactly when LINE_OE = 1 and LINE_OUT = 0 (10_state.md R36). -/
def Block.pullsLow (b : Block) : Bool := b.lineOe && !b.lineOut

/-- STATUS as read (30_encoding.md R83): BUSY at 0, INIT at 1, VALID at 2, 0 at 3, RESULT at [7:4], STATE at
[11:8], BIT_INDEX at [17:12], 0 above. -/
def Block.statusWord (b : Block) : Word :=
  (b.bitidx ++ b.state ++ b.result ++ 0#1 ++ BitVec.ofBool b.valid ++ BitVec.ofBool b.initialized ++
    BitVec.ofBool b.busy).setWidth 32

/-- CONFIG as read: zext_32({TIMER_ID, PIN_ID}) (30_encoding.md R83). -/
def Block.configWord (b : Block) : Word := (b.cfgTimer ++ b.cfgPin).setWidth 32

/-- The five bytes the data registers show, as a buffer: DATA0 bytes 0 to 3, then DATA1 byte 4
(10_state.md R33, R34; 20_memory.md R66). -/
def Block.reading (b : Block) : Buffer :=
  byteLane 0 b.data0 ++ byteLane 1 b.data0 ++ byteLane 2 b.data0 ++ byteLane 3 b.data0 ++ byteLane 0 b.data1

end Sys2Proof.Machine
end

