-- ==== Sys2Proof/Machine/Ops.lean ====
section
/-! DEFINITION. The named operations the meanings are built from: what the source's HAL calls do to the state,
the bounded wait (41_start_and_handshake.md R143), error entry and error return (60_exceptions.md R207, R208),
the host's bus reply and LINE's sample. -/

namespace Sys2Proof.Machine

/-! ### On the block -/

/-- `STATE <- st` (00_scope.md R10). -/
def Block.goto (b : Block) (st : Code) : Block := { b with state := st }

/-- `RESULT <- c`. -/
def Block.setResult (b : Block) (c : Code) : Block := { b with result := c }

/-- VALID, DATA0 and DATA1 cleared, as every INIT and every READ does (40_host_interface.md R113 to R115). -/
def Block.clearReading (b : Block) : Block := { b with valid := false, data0 := 0, data1 := 0 }

/-- The idle line: output, logic-high (10_state.md R36). -/
def Block.driveIdle (b : Block) : Block := { b with lineOe := true, lineOut := true }

/-- The line driven low in output mode (10_state.md R36). -/
def Block.driveLow (b : Block) : Block := { b with lineOe := true, lineOut := false }

/-- Release high and switch to input mode, in one step (41_start_and_handshake.md R141). -/
def Block.releaseLine (b : Block) : Block := { b with lineOe := false, lineOut := true }

/-- `RUN <- 1`: start the timer. -/
def Block.startTimer (b : Block) : Block := { b with run := true }

/-- `RUN <- 0`: stop the timer. -/
def Block.stopTimer (b : Block) : Block := { b with run := false }

/-- `CNT <- 0`: reset the timer counter. -/
def Block.resetTimer (b : Block) : Block := { b with cnt := 0 }

/-- `POLLS <- n`: a fresh budget. -/
def Block.loadPolls (b : Block) (n : Word) : Block := { b with polls := n }

/-- `POLLS <- POLLS - 1` (it wraps at 0, which no run reaches: assumption 17). -/
def Block.spendPoll (b : Block) : Block := { b with polls := b.polls - 1 }

/-- Error entry, `fail(code)`: PEND <- code, STATE <- ERROR, and nothing else (60_exceptions.md R207). -/
def Block.fail (b : Block) (code : Code) : Block := { b with pend := code, state := St.error }

/-- Error return: the effect of the ERROR step (43_checksum_and_completion.md R184, 60_exceptions.md R207). -/
def Block.endError (b : Block) : Block :=
  { b.driveIdle.stopTimer with shift := 0, result := b.pend, pend := Res.none, state := St.idle }

/-- A poll that saw the wrong level: the budget loses one, and the poll that brings it to 0 fails with
RD_TIMEOUT (41_start_and_handshake.md R143). -/
def Block.missedPoll (b : Block) : Block :=
  if b.spendPoll.polls = 0 then b.spendPoll.fail Res.rdTimeout else b.spendPoll

/-- `await(level, next, entry)` on the sample `v` (41_start_and_handshake.md R143). -/
def Block.await (level : Bool) (next : Code) (entry : Block → Block) (v : Bool) (b : Block) : Block :=
  if v = level then (entry b).goto next else b.missedPoll

/-- `if BIT_WAIT_LIMIT = some L then POLLS <- L` (42_bit_acquisition.md R164, R165). -/
def Block.loadBitWait (p : Params) (b : Block) : Block :=
  match p.bitWaitLimit with
  | some l => b.loadPolls l
  | none => b

/-! ### On the state -/

/-- The step's effect on the block alone. -/
def State.setBlk (s : State) (b : Block) : State := { s with blk := b }

/-- Something the run shows (10_state.md R41). -/
def State.record (s : State) (o : Obs) : State := { s with history := o :: s.history }

/-- The reply to a `BusRead`: the host gets the value, the block does not change (40_host_interface.md R101). -/
def State.reply (s : State) (off : Offset) (value : Word) : Host.Outcome State Fault Refusal :=
  .next (s.record (.busRead off value))

/-- The level the next `Sample()` returns: LINE's pending answer, else a free draw (10_state.md R24). -/
def State.sampleLevel (s : State) : Bool :=
  match s.line with
  | v :: _ => v
  | [] => Config.freeSample s.draws

/-- After a `Sample()`: the answer is used up and the event `(STATE, value)` recorded (10_state.md R24). -/
def State.sampled (s : State) : State :=
  { s with line := s.line.tail, draws := s.draws + 1,
           history := .sample s.blk.state s.sampleLevel :: s.history }

/-- An ENGINE step that takes one sample and acts on it. -/
def State.sampleStep (s : State) (rule : Bool → Block → Block) : Host.Outcome State Fault Refusal :=
  .next (s.sampled.setBlk (rule s.sampleLevel s.blk))

/-- A step that acts on the block and shows nothing. -/
def State.blockStep (s : State) (rule : Block → Block) : Host.Outcome State Fault Refusal :=
  .next (s.setBlk (rule s.blk))

/-- An unsupported access: BAD_ACCESS_RESPONSE is OPEN, so the host operation is refused
(20_memory.md R63, 40_host_interface.md R118). -/
def State.badAccess (_ : State) (we : Bool) (off : Offset) : Host.Outcome State Fault Refusal :=
  .refused (.misalignedAccess we off)

end Sys2Proof.Machine
end

