-- ==== Sys2Proof/Machine/BitAcquisition.lean ====
section
/-! DEFINITION. The ENGINE steps of SamplingBits: BIT_HIGH and BIT_LOW (42_bit_acquisition.md R164, R165), with
BIT_WAIT_LIMIT as an argument (R167). -/

namespace Sys2Proof.Machine

/-- BIT_HIGH (R164): wait for the rise, then start the timer. -/
def Block.bitHighRule (p : Params) (v : Bool) (b : Block) : Block :=
  if v then (b.startTimer.loadBitWait p).goto St.bitLow
  else
    match p.bitWaitLimit with
    | none => b
    | some _ => b.missedPoll

/-- The fall of bit BITIDX: stop the timer, classify its count, pack the bit, count it (R165). -/
def Block.takeBit (p : Params) (b : Block) : Block :=
  { b with run := false, shift := pack b.shift b.bitidx (classify p.threshold b.cnt),
           bitidx := b.bitidx + 1 }

/-- After a bit: CHECK when all 40 are taken, else the next bit with the counter reset (R165). -/
def Block.nextBit (p : Params) (b : Block) : Block :=
  if b.bitidx = nbits then b.goto St.check
  else (b.resetTimer.loadBitWait p).goto St.bitHigh

/-- A wrong sample in a bounded BIT_LOW wait: RUN is cleared too when the wait fails (R165, R167). -/
def Block.missedFall (b : Block) : Block :=
  if b.spendPoll.polls = 0 then b.spendPoll.stopTimer.fail Res.rdTimeout else b.spendPoll

/-- BIT_LOW (R165): wait for the fall, then take the bit. -/
def Block.bitLowRule (p : Params) (v : Bool) (b : Block) : Block :=
  if v then
    match p.bitWaitLimit with
    | none => b
    | some _ => b.missedFall
  else (b.takeBit p).nextBit p

/-- R164. -/
def execStepBitHigh (s : State) : Host.Outcome State Fault Refusal :=
  s.sampleStep (Block.bitHighRule Config.hw)

/-- R165. -/
def execStepBitLow (s : State) : Host.Outcome State Fault Refusal :=
  s.sampleStep (Block.bitLowRule Config.hw)

end Sys2Proof.Machine
end

