-- ==== Sys2Proof/Machine/Commands.lean ====
section
/-! DEFINITION. The commands, writes to CTRL (40_host_interface.md R112 to R117). -/

namespace Sys2Proof.Machine

/-- R112: every command is ignored while busy. -/
def Block.command (rule : Block → Block) (b : Block) : Block := if b.busy then b else rule b

/-- A failing INIT: RESULT <- code, INITIALIZED <- 0, no line and no timer access (R113). -/
def Block.configError (code : Code) (b : Block) : Block := { b with result := code, initialized := false }

/-- A passing INIT: latch the configuration, idle the line, stop and clear the timer (R113). -/
def Block.configure (b : Block) : Block :=
  { b.driveIdle.stopTimer.resetTimer with
    actPin := b.cfgPin, actTimer := b.cfgTimer, actTimeout := b.timeout, initialized := true, result := Res.ok }

/-- INIT's validation, in the order of 60_exceptions.md R204 (R113). -/
def Block.validateAndConfigure (p : Params) (b : Block) : Block :=
  if !p.validPin b.cfgPin then b.configError Res.cfgInvalidPort
  else if !p.validTimer b.cfgTimer then b.configError Res.cfgInvalidTimer
  else if b.timeout = 0 then b.configError Res.cfgZeroTimeout
  else b.configure

/-- INIT (R113). -/
def Block.initialize (p : Params) (b : Block) : Block := b.clearReading.validateAndConfigure p

/-- The rest of an accepted READ (R115): forget the last transaction and drive the line low. -/
def Block.beginStart (b : Block) : Block :=
  { b.driveLow.stopTimer with
    result := Res.none, pend := Res.none, shift := 0, bitidx := 0, dly := 0, polls := 0, state := St.start }

/-- READ: refused by R114 when INITIALIZED = 0, else accepted by R115. -/
def Block.startRead (b : Block) : Block :=
  if b.initialized then b.clearReading.beginStart else b.clearReading.setResult Res.rdNotInit

/-- R116: NOP. -/
def execWrNop (s : State) : Host.Outcome State Fault Refusal := s.blockStep (Block.command id)

/-- R113, behind R112. -/
def execWrInit (s : State) : Host.Outcome State Fault Refusal :=
  s.blockStep (Block.command (Block.initialize Config.hw))

/-- R114 and R115, behind R112. -/
def execWrRead (s : State) : Host.Outcome State Fault Refusal := s.blockStep (Block.command Block.startRead)

/-- R117: the reserved command is ignored, like NOP. -/
def execWrCmdRsvd (s : State) : Host.Outcome State Fault Refusal := s.blockStep (Block.command id)

end Sys2Proof.Machine
end

