-- ==== Sys2Proof/Machine/Completion.lean ====
section
/-! DEFINITION. The ENGINE steps of CHECK, DONE and ERROR (43_checksum_and_completion.md R182 to R184). -/

namespace Sys2Proof.Machine

/-- CHECK (R182). -/
def Block.checkRule (b : Block) : Block :=
  if checksumOk b.shift then b.goto St.done else b.fail Res.rdChecksum

/-- DONE (R183): idle the line, publish the reading. -/
def Block.doneRule (b : Block) : Block :=
  { b.driveIdle with
    data0 := readingLow b.shift, data1 := readingHigh b.shift, valid := true, result := Res.ok, state := St.idle }

/-- R182. -/
def execStepCheck (s : State) : Host.Outcome State Fault Refusal := s.blockStep Block.checkRule

/-- R183. -/
def execStepDone (s : State) : Host.Outcome State Fault Refusal := s.blockStep Block.doneRule

/-- R184. A PEND of 8 to 15 would produce a reserved RESULT code, which is a fault
(93_implementation_defined.md section 2, assumption 7). -/
def execStepError (s : State) : Host.Outcome State Fault Refusal :=
  if Res.reserved s.blk.pend then .fault (.reservedResult s.blk.pend) else s.blockStep Block.endError

end Sys2Proof.Machine
end

