-- ==== Sys2Proof/Machine/Events.lean ====
section
/-! DEFINITION. The two events: TICK (42_bit_acquisition.md R161) and RESET (70_reset_and_hazards.md R230). -/

namespace Sys2Proof.Machine

/-- The timer counts while it runs, modulo 2^32 (R161). -/
def Block.tickTimer (b : Block) : Block := if b.run then { b with cnt := b.cnt + 1 } else b

/-- The start-pulse delay counts in START and saturates (R161). -/
def Block.tickDelay (b : Block) : Block :=
  if b.state = St.start ∧ b.dly.toNat < startLowTicks.toNat then { b with dly := b.dly + 1 } else b

/-- R161. -/
def Block.tickRule (b : Block) : Block := b.tickTimer.tickDelay

/-- R161. -/
def execTick (s : State) : Host.Outcome State Fault Refusal := s.blockStep Block.tickRule

/-- R230: every element at its reset value. The inputs pending outside the block and the run's history are no
elements of it and stay (assumption 16). -/
def execReset (s : State) : Host.Outcome State Fault Refusal := s.blockStep (fun _ => Block.reset)

end Sys2Proof.Machine
end

