-- ==== Sys2Proof/Machine/Handshake.lean ====
section
/-! DEFINITION. The ENGINE steps of IDLE (10_state.md R48), START and the three handshake phases
(41_start_and_handshake.md R141 to R146). -/

namespace Sys2Proof.Machine

/-- START (R141): once DLY is START_LOW_TICKS, release the line, load phase (a)'s budget, enter ACK_A. -/
def Block.startRule (b : Block) : Block :=
  if b.dly = startLowTicks then (b.releaseLine.loadPolls b.actTimeout).goto St.ackA else b

/-- ACK_A (R144): phase (a), wait for low. -/
def Block.ackARule (v : Bool) (b : Block) : Block :=
  Block.await false St.ackB (fun c => c.loadPolls c.actTimeout) v b

/-- ACK_B (R145): phase (b), wait for high. -/
def Block.ackBRule (v : Bool) (b : Block) : Block :=
  Block.await true St.ackC (fun c => c.loadPolls c.actTimeout) v b

/-- ACK_C (R146): phase (c), wait for low, then reset the timer counter for bit 0. -/
def Block.ackCRule (p : Params) (v : Bool) (b : Block) : Block :=
  Block.await false St.bitHigh (fun c => c.resetTimer.loadBitWait p) v b

/-- R48: skip. -/
def execStepIdle (s : State) : Host.Outcome State Fault Refusal := .next s

/-- R141. -/
def execStepStart (s : State) : Host.Outcome State Fault Refusal := s.blockStep Block.startRule

/-- R144. -/
def execStepAckA (s : State) : Host.Outcome State Fault Refusal := s.sampleStep Block.ackARule

/-- R145. -/
def execStepAckB (s : State) : Host.Outcome State Fault Refusal := s.sampleStep Block.ackBRule

/-- R146. -/
def execStepAckC (s : State) : Host.Outcome State Fault Refusal :=
  s.sampleStep (Block.ackCRule Config.hw)

end Sys2Proof.Machine
end

