-- ==== Sys2Proof/Machine/HostReads.lean ====
section
/-! DEFINITION. The register reads (40_host_interface.md R101 to R108): each returns the word of
30_encoding.md R83 for its offset and changes no state. -/

namespace Sys2Proof.Machine

/-- R102: CTRL has no storage and reads 0. -/
def execRdCtrl (s : State) : Host.Outcome State Fault Refusal := s.reply Off.ctrl 0

/-- R103. -/
def execRdStatus (s : State) : Host.Outcome State Fault Refusal := s.reply Off.status s.blk.statusWord

/-- R104: the staging copy. -/
def execRdConfig (s : State) : Host.Outcome State Fault Refusal := s.reply Off.config s.blk.configWord

/-- R105: the staging copy. -/
def execRdTimeout (s : State) : Host.Outcome State Fault Refusal := s.reply Off.timeout s.blk.timeout

/-- R106. -/
def execRdData0 (s : State) : Host.Outcome State Fault Refusal := s.reply Off.data0 s.blk.data0

/-- R107. -/
def execRdData1 (s : State) : Host.Outcome State Fault Refusal := s.reply Off.data1 s.blk.data1

/-- R108: a reserved offset reads 0. -/
def execRdRsvd (off : Offset) (s : State) : Host.Outcome State Fault Refusal := s.reply off 0

end Sys2Proof.Machine
end

