-- ==== Sys2Proof/Machine/HostWrites.lean ====
section
/-! DEFINITION. The register writes that are no commands (40_host_interface.md R109 to R111) and the MISALIGNED
accesses (R118). -/

namespace Sys2Proof.Machine

/-- `CONFIG.PIN_ID <- DATA[7:0]; CONFIG.TIMER_ID <- DATA[15:8]` (R109). -/
def Block.storeConfig (data : Word) (b : Block) : Block :=
  { b with cfgPin := pinField data, cfgTimer := timerField data }

/-- `TIMEOUT <- DATA[31:0]` (R110). -/
def Block.storeTimeout (data : Word) (b : Block) : Block := { b with timeout := data }

/-- R109: accepted in every state, busy or not. -/
def execWrConfig (data : Word) (s : State) : Host.Outcome State Fault Refusal :=
  s.blockStep (Block.storeConfig data)

/-- R110: accepted in every state, busy or not. -/
def execWrTimeout (data : Word) (s : State) : Host.Outcome State Fault Refusal :=
  s.blockStep (Block.storeTimeout data)

/-- R111: skip. -/
def execWrStatus (_ : Word) (s : State) : Host.Outcome State Fault Refusal := .next s

/-- R111: skip. -/
def execWrData0 (_ : Word) (s : State) : Host.Outcome State Fault Refusal := .next s

/-- R111: skip. -/
def execWrData1 (_ : Word) (s : State) : Host.Outcome State Fault Refusal := .next s

/-- R111: skip. -/
def execWrRsvd (_ : Offset) (_ : Word) (s : State) : Host.Outcome State Fault Refusal := .next s

/-- R118: refused. -/
def execMisaligned01 (we : Bool) (off : Offset) (_ : Word) (s : State) :
    Host.Outcome State Fault Refusal := s.badAccess we off

/-- R118: refused. -/
def execMisaligned10 (we : Bool) (off : Offset) (_ : Word) (s : State) :
    Host.Outcome State Fault Refusal := s.badAccess we off

/-- R118: refused. -/
def execMisaligned11 (we : Bool) (off : Offset) (_ : Word) (s : State) :
    Host.Outcome State Fault Refusal := s.badAccess we off

end Sys2Proof.Machine
end

