-- ==== Sys2Proof/Syntax.lean ====
section
/-! DEFINITION. One constructor per row of spec/opcode_table.json: the host operations (30_encoding.md R85),
the ENGINE step each STATE code selects (R86), and the two events. Operands are those the rules of
40_host_interface.md name; DATA bits the spec marks ignored and names as no operand are not kept
(assumption 13). -/

namespace Sys2Proof

inductive Instr where
  /-- RD_CTRL, R102. -/
  | rdCtrl
  /-- RD_STATUS, R103. -/
  | rdStatus
  /-- RD_CONFIG, R104. -/
  | rdConfig
  /-- RD_TIMEOUT, R105. -/
  | rdTimeout
  /-- RD_DATA0, R106. -/
  | rdData0
  /-- RD_DATA1, R107. -/
  | rdData1
  /-- RD_RSVD at offset 0x18 or 0x1C, R108. -/
  | rdRsvd (off : Offset)
  /-- WR_NOP, R116. -/
  | wrNop
  /-- WR_INIT, R113. -/
  | wrInit
  /-- WR_READ, R114 and R115. -/
  | wrRead
  /-- WR_CMD_RSVD, R117. -/
  | wrCmdRsvd
  /-- WR_STATUS, R111. -/
  | wrStatus (data : Word)
  /-- WR_CONFIG, R109. -/
  | wrConfig (data : Word)
  /-- WR_TIMEOUT, R110. -/
  | wrTimeout (data : Word)
  /-- WR_DATA0, R111. -/
  | wrData0 (data : Word)
  /-- WR_DATA1, R111. -/
  | wrData1 (data : Word)
  /-- WR_RSVD at offset 0x18 or 0x1C, R111. -/
  | wrRsvd (off : Offset) (data : Word)
  /-- MISALIGNED_01: OFF[1:0] = 01, R118. -/
  | misaligned01 (we : Bool) (off : Offset) (data : Word)
  /-- MISALIGNED_10: OFF[1:0] = 10, R118. -/
  | misaligned10 (we : Bool) (off : Offset) (data : Word)
  /-- MISALIGNED_11: OFF[1:0] = 11, R118. -/
  | misaligned11 (we : Bool) (off : Offset) (data : Word)
  /-- STEP_IDLE, R48. -/
  | stepIdle
  /-- STEP_START, R141. -/
  | stepStart
  /-- STEP_ACK_A, R144. -/
  | stepAckA
  /-- STEP_ACK_B, R145. -/
  | stepAckB
  /-- STEP_ACK_C, R146. -/
  | stepAckC
  /-- STEP_BIT_HIGH, R164. -/
  | stepBitHigh
  /-- STEP_BIT_LOW, R165. -/
  | stepBitLow
  /-- STEP_CHECK, R182. -/
  | stepCheck
  /-- STEP_DONE, R183. -/
  | stepDone
  /-- STEP_ERROR, R184. -/
  | stepError
  /-- TICK, R161. -/
  | tick
  /-- RESET, R230. -/
  | reset
  deriving DecidableEq, Repr

end Sys2Proof
end

