-- ==== Sys2Proof/Machine/Dispatch.lean ====
section
/-! DEFINITION. One arm per constructor of Instr, each one direct call of its meaning. -/

namespace Sys2Proof.Machine

def exec (i : Instr) (s : State) : Host.Outcome State Fault Refusal :=
  match i with
  | .rdCtrl => Sys2Proof.Machine.execRdCtrl s
  | .rdStatus => Sys2Proof.Machine.execRdStatus s
  | .rdConfig => Sys2Proof.Machine.execRdConfig s
  | .rdTimeout => Sys2Proof.Machine.execRdTimeout s
  | .rdData0 => Sys2Proof.Machine.execRdData0 s
  | .rdData1 => Sys2Proof.Machine.execRdData1 s
  | .rdRsvd off => Sys2Proof.Machine.execRdRsvd off s
  | .wrNop => Sys2Proof.Machine.execWrNop s
  | .wrInit => Sys2Proof.Machine.execWrInit s
  | .wrRead => Sys2Proof.Machine.execWrRead s
  | .wrCmdRsvd => Sys2Proof.Machine.execWrCmdRsvd s
  | .wrStatus data => Sys2Proof.Machine.execWrStatus data s
  | .wrConfig data => Sys2Proof.Machine.execWrConfig data s
  | .wrTimeout data => Sys2Proof.Machine.execWrTimeout data s
  | .wrData0 data => Sys2Proof.Machine.execWrData0 data s
  | .wrData1 data => Sys2Proof.Machine.execWrData1 data s
  | .wrRsvd off data => Sys2Proof.Machine.execWrRsvd off data s
  | .misaligned01 we off data => Sys2Proof.Machine.execMisaligned01 we off data s
  | .misaligned10 we off data => Sys2Proof.Machine.execMisaligned10 we off data s
  | .misaligned11 we off data => Sys2Proof.Machine.execMisaligned11 we off data s
  | .stepIdle => Sys2Proof.Machine.execStepIdle s
  | .stepStart => Sys2Proof.Machine.execStepStart s
  | .stepAckA => Sys2Proof.Machine.execStepAckA s
  | .stepAckB => Sys2Proof.Machine.execStepAckB s
  | .stepAckC => Sys2Proof.Machine.execStepAckC s
  | .stepBitHigh => Sys2Proof.Machine.execStepBitHigh s
  | .stepBitLow => Sys2Proof.Machine.execStepBitLow s
  | .stepCheck => Sys2Proof.Machine.execStepCheck s
  | .stepDone => Sys2Proof.Machine.execStepDone s
  | .stepError => Sys2Proof.Machine.execStepError s
  | .tick => Sys2Proof.Machine.execTick s
  | .reset => Sys2Proof.Machine.execReset s

end Sys2Proof.Machine
end

