-- ==== Sys2Proof/WellFormed.lean ====
section
/-! DEFINITION. Which instructions the encoding can express: the offset operand of a reserved-offset row and of
a MISALIGNED row is one that the row's pattern admits (30_encoding.md R81, R85). Every other operand fills
its field. -/

namespace Sys2Proof

open Machine

/-- The offsets of RD_RSVD and WR_RSVD (20_memory.md R62). -/
def isReservedOffset (off : Offset) : Bool := off == Off.rsvd18 || off == Off.rsvd1C

/-- OFF[1:0] (30_encoding.md R81). -/
def offsetLow (off : Offset) : BitVec 2 := off.extractLsb' 0 2

def Instr.wf : Instr → Bool
  | .rdCtrl => true
  | .rdStatus => true
  | .rdConfig => true
  | .rdTimeout => true
  | .rdData0 => true
  | .rdData1 => true
  | .rdRsvd off => isReservedOffset off
  | .wrNop => true
  | .wrInit => true
  | .wrRead => true
  | .wrCmdRsvd => true
  | .wrStatus _ => true
  | .wrConfig _ => true
  | .wrTimeout _ => true
  | .wrData0 _ => true
  | .wrData1 _ => true
  | .wrRsvd off _ => isReservedOffset off
  | .misaligned01 _ off _ => offsetLow off == 1
  | .misaligned10 _ off _ => offsetLow off == 2
  | .misaligned11 _ off _ => offsetLow off == 3
  | .stepIdle => true
  | .stepStart => true
  | .stepAckA => true
  | .stepAckB => true
  | .stepAckC => true
  | .stepBitHigh => true
  | .stepBitLow => true
  | .stepCheck => true
  | .stepDone => true
  | .stepError => true
  | .tick => true
  | .reset => true

end Sys2Proof
end

