-- ==== Sys2Proof/Decode.lean ====
section
/-! DEFINITION. The decoder, the encoder, the opcode table's rows and the assembler (30_encoding.md R80 to R91).
Decoding is total: a word is an instruction or is rejected by name. -/

namespace Sys2Proof

open Machine

/-- An event has no encoding (spec/opcode_table.json, format EVENT): only its name. -/
inductive Event where
  | tick
  | reset
  deriving DecidableEq, Repr

/-- What a step fetches: a host operation word (30_encoding.md R80), the STATE register, which is the ENGINE's
control point (10_state.md R27), or an event. -/
inductive RawWord where
  | hostop (w : HowWord)
  | engineState (c : Code)
  | event (e : Event)
  deriving DecidableEq, Repr

/-- Why a word is no instruction. -/
inductive DecodeError where
  /-- One of the top two of the 40 bits is not 0: no host operation word (30_encoding.md R80). -/
  | notAHostOperation (w : HowWord)
  /-- STATE code 10 to 15 (30_encoding.md R86, R88). -/
  | reservedState (c : Code)
  deriving DecidableEq, Repr

/-- WE, bit 37 (R80). -/
def howWe (w : HowWord) : Bool := w.getLsbD 37

/-- OFF, bits [36:32] (R80). -/
def howOff (w : HowWord) : Offset := w.extractLsb' 32 5

/-- DATA, bits [31:0] (R80). -/
def howData (w : HowWord) : Word := w.extractLsb' 0 32

/-- The two bits above the operation's 38 (R80). -/
def howTop (w : HowWord) : BitVec 2 := w.extractLsb' 38 2

/-- CTRL.CMD = DATA[1:0] (R82). -/
def cmdField (data : Word) : BitVec 2 := data.extractLsb' 0 2

/-- R84: the command a write to CTRL selects. -/
def decodeCommand (data : Word) : Instr :=
  if cmdField data = Cmd.nop then .wrNop
  else if cmdField data = Cmd.init then .wrInit
  else if cmdField data = Cmd.read then .wrRead
  else .wrCmdRsvd

/-- R85, WE = 0, for the six offsets below 0x18 (the last is 0x14). -/
def decodeRead (off : Offset) : Instr :=
  if off = Off.ctrl then .rdCtrl
  else if off = Off.status then .rdStatus
  else if off = Off.config then .rdConfig
  else if off = Off.timeout then .rdTimeout
  else if off = Off.data0 then .rdData0
  else .rdData1

/-- R85, WE = 1, for the six offsets below 0x18 (the last is 0x14). -/
def decodeWrite (off : Offset) (data : Word) : Instr :=
  if off = Off.ctrl then decodeCommand data
  else if off = Off.status then .wrStatus data
  else if off = Off.config then .wrConfig data
  else if off = Off.timeout then .wrTimeout data
  else if off = Off.data0 then .wrData0 data
  else .wrData1 data

/-- R81's three cases, in their order. -/
def decodeFields (we : Bool) (off : Offset) (data : Word) : Instr :=
  if offsetLow off = 1 then .misaligned01 we off data
  else if offsetLow off = 2 then .misaligned10 we off data
  else if offsetLow off = 3 then .misaligned11 we off data
  else if isReservedOffset off then (if we then .wrRsvd off data else .rdRsvd off)
  else if we then decodeWrite off data
  else decodeRead off

def decodeHow (w : HowWord) : Except DecodeError Instr :=
  if howTop w = 0 then .ok (decodeFields (howWe w) (howOff w) (howData w))
  else .error (.notAHostOperation w)

/-- R86: the ENGINE step a STATE code selects. -/
def decodeState (c : Code) : Except DecodeError Instr :=
  if c = St.idle then .ok .stepIdle
  else if c = St.start then .ok .stepStart
  else if c = St.ackA then .ok .stepAckA
  else if c = St.ackB then .ok .stepAckB
  else if c = St.ackC then .ok .stepAckC
  else if c = St.bitHigh then .ok .stepBitHigh
  else if c = St.bitLow then .ok .stepBitLow
  else if c = St.check then .ok .stepCheck
  else if c = St.done then .ok .stepDone
  else if c = St.error then .ok .stepError
  else .error (.reservedState c)

def decode : RawWord → Except DecodeError Instr
  | .hostop w => decodeHow w
  | .engineState c => decodeState c
  | .event .tick => .ok .tick
  | .event .reset => .ok .reset

/-- The word `{WE, OFF, DATA}` under two zero bits (R80). -/
def howWord (we : Bool) (off : Offset) (data : Word) : HowWord :=
  0#2 ++ BitVec.ofBool we ++ off ++ data

/-- The word of an instruction, with every ignored bit 0 (R80: "for a read it is ignored and written as 0"). -/
def encode : Instr → RawWord
  | .rdCtrl => .hostop (howWord false Off.ctrl 0)
  | .rdStatus => .hostop (howWord false Off.status 0)
  | .rdConfig => .hostop (howWord false Off.config 0)
  | .rdTimeout => .hostop (howWord false Off.timeout 0)
  | .rdData0 => .hostop (howWord false Off.data0 0)
  | .rdData1 => .hostop (howWord false Off.data1 0)
  | .rdRsvd off => .hostop (howWord false off 0)
  | .wrNop => .hostop (howWord true Off.ctrl 0)
  | .wrInit => .hostop (howWord true Off.ctrl 1)
  | .wrRead => .hostop (howWord true Off.ctrl 2)
  | .wrCmdRsvd => .hostop (howWord true Off.ctrl 3)
  | .wrStatus data => .hostop (howWord true Off.status data)
  | .wrConfig data => .hostop (howWord true Off.config data)
  | .wrTimeout data => .hostop (howWord true Off.timeout data)
  | .wrData0 data => .hostop (howWord true Off.data0 data)
  | .wrData1 data => .hostop (howWord true Off.data1 data)
  | .wrRsvd off data => .hostop (howWord true off data)
  | .misaligned01 we off data => .hostop (howWord we off data)
  | .misaligned10 we off data => .hostop (howWord we off data)
  | .misaligned11 we off data => .hostop (howWord we off data)
  | .stepIdle => .engineState 0
  | .stepStart => .engineState 1
  | .stepAckA => .engineState 2
  | .stepAckB => .engineState 3
  | .stepAckC => .engineState 4
  | .stepBitHigh => .engineState 5
  | .stepBitLow => .engineState 6
  | .stepCheck => .engineState 7
  | .stepDone => .engineState 8
  | .stepError => .engineState 9
  | .tick => .event .tick
  | .reset => .event .reset

/-- A row of spec/opcode_table.json, format HOSTOP: the bits `mask` selects have the value `bits`. -/
structure Row where
  bits : HowWord
  mask : HowWord
  deriving DecidableEq, Repr

def Row.matches (r : Row) (w : HowWord) : Bool := w &&& r.mask == r.bits

/-- The HOSTOP row of a constructor, as spec/opcode_table.json prints it (30_encoding.md R85). -/
def Instr.row : Instr → Option Row
  | .rdCtrl => some ⟨0x0000000000, 0x3F00000000⟩
  | .rdStatus => some ⟨0x0400000000, 0x3F00000000⟩
  | .rdConfig => some ⟨0x0800000000, 0x3F00000000⟩
  | .rdTimeout => some ⟨0x0C00000000, 0x3F00000000⟩
  | .rdData0 => some ⟨0x1000000000, 0x3F00000000⟩
  | .rdData1 => some ⟨0x1400000000, 0x3F00000000⟩
  | .rdRsvd _ => some ⟨0x1800000000, 0x3B00000000⟩
  | .wrNop => some ⟨0x2000000000, 0x3F00000003⟩
  | .wrInit => some ⟨0x2000000001, 0x3F00000003⟩
  | .wrRead => some ⟨0x2000000002, 0x3F00000003⟩
  | .wrCmdRsvd => some ⟨0x2000000003, 0x3F00000003⟩
  | .wrStatus _ => some ⟨0x2400000000, 0x3F00000000⟩
  | .wrConfig _ => some ⟨0x2800000000, 0x3F00000000⟩
  | .wrTimeout _ => some ⟨0x2C00000000, 0x3F00000000⟩
  | .wrData0 _ => some ⟨0x3000000000, 0x3F00000000⟩
  | .wrData1 _ => some ⟨0x3400000000, 0x3F00000000⟩
  | .wrRsvd _ _ => some ⟨0x3800000000, 0x3B00000000⟩
  | .misaligned01 _ _ _ => some ⟨0x0100000000, 0x0300000000⟩
  | .misaligned10 _ _ _ => some ⟨0x0200000000, 0x0300000000⟩
  | .misaligned11 _ _ _ => some ⟨0x0300000000, 0x0300000000⟩
  | .stepIdle => none
  | .stepStart => none
  | .stepAckA => none
  | .stepAckB => none
  | .stepAckC => none
  | .stepBitHigh => none
  | .stepBitLow => none
  | .stepCheck => none
  | .stepDone => none
  | .stepError => none
  | .tick => none
  | .reset => none

/-- The table's HOSTOP rows, in its order (one instruction standing for each row). -/
def hostRows : List Row :=
  [Instr.rdCtrl, .rdStatus, .rdConfig, .rdTimeout, .rdData0, .rdData1, .rdRsvd 0x18,
   .wrNop, .wrInit, .wrRead, .wrCmdRsvd, .wrStatus 0, .wrConfig 0, .wrTimeout 0].filterMap Instr.row ++
  [Instr.wrData0 0, .wrData1 0, .wrRsvd 0x18 0, .misaligned01 false 1 0, .misaligned10 false 2 0,
   .misaligned11 false 3 0].filterMap Instr.row

/-- The register names of the assembler (30_encoding.md R90). -/
inductive RegName where
  | ctrl | status | config | timeout | data0 | data1 | rsvd18 | rsvd1C
  deriving DecidableEq, Repr

/-- The offset of a register (20_memory.md R61). -/
def RegName.offset : RegName → Offset
  | .ctrl => Off.ctrl
  | .status => Off.status
  | .config => Off.config
  | .timeout => Off.timeout
  | .data0 => Off.data0
  | .data1 => Off.data1
  | .rsvd18 => Off.rsvd18
  | .rsvd1C => Off.rsvd1C

/-- `RD <reg>` (30_encoding.md R90). -/
def asmRd (r : RegName) : HowWord := howWord false r.offset 0

/-- `WR <reg>, <value>` (R90). -/
def asmWr (r : RegName) (value : Word) : HowWord := howWord true r.offset value

/-- `NOP`, `INIT`, `READ` (R91). -/
def asmNop : HowWord := asmWr .ctrl 0
def asmInit : HowWord := asmWr .ctrl 1
def asmRead : HowWord := asmWr .ctrl 2

/-- `SETCFG p, t` is `WR CONFIG, (t << 8) | p` (R91). -/
def asmSetCfg (p t : Byte) : HowWord := asmWr .config ((t.setWidth 32 <<< 8) ||| p.setWidth 32)

/-- `SETTO n` (R91). -/
def asmSetTo (n : Word) : HowWord := asmWr .timeout n

/-- The raw word of a table word: a word of at most 8 bits is a STATE code (format ENGINE_STATE, 4 bits), a
longer one a host operation word (format HOSTOP, 38 bits). Assumption 14. -/
def tableWord (nbits w : Nat) : Option RawWord :=
  if nbits ≤ 8 then
    (if w < 16 then some (.engineState (BitVec.ofNat 4 w)) else none)
  else
    (if w < 2 ^ 40 then some (.hostop (BitVec.ofNat 40 w)) else none)

def okInstr : Except DecodeError Instr → Option Instr
  | .ok i => some i
  | .error _ => none

/-- The instruction the decoder reads from a word numbered as spec/opcode_table.json numbers it. -/
def decodeTableWord (nbits w : Nat) : Option Instr :=
  match tableWord nbits w with
  | some raw => okInstr (decode raw)
  | none => none

end Sys2Proof
end

