-- ==== Sys2Proof/Machine/Fetch.lean ====
section
/-! DEFINITION. What the next step runs: the next input (10_state.md R21) and the word it fetches. The block
fetches no instruction stream (20_memory.md R73): an ENGINE step's word is the STATE register
(10_state.md R27), a HOST step's the host operation word (30_encoding.md R80). -/

namespace Sys2Proof.Machine

/-- Who moves next: the first pending input, else a free choice (10_state.md R21). -/
def State.nextInput (s : State) : Input :=
  match s.agenda with
  | x :: _ => x
  | [] => Config.freeInput s.draws

/-- The state with that input taken. -/
def State.takeInput (s : State) : State := { s with agenda := s.agenda.tail, draws := s.draws + 1 }

/-- A bus access as a host operation word: 32 bits wide and inside BASE to BASE+31, or refused
(20_memory.md R61, R63). A read's DATA is 0 (30_encoding.md R80). -/
def busWord (a : BusAccess) : Except Refusal RawWord :=
  if a.bytes = 4 then
    (if Config.base ≤ a.addr ∧ a.addr ≤ Config.base + 31 then
      .ok (.hostop (howWord a.write (BitVec.ofNat 5 (a.addr - Config.base)) (if a.write then a.data else 0)))
    else .error (.outsideWindow a.addr))
  else .error (.unsupportedWidth a.bytes)

/-- The word an input fetches. -/
def fetchWord (x : Input) (b : Block) : Except Refusal RawWord :=
  match x with
  | .engine => .ok (.engineState b.state)
  | .tick => .ok (.event .tick)
  | .reset => .ok (.event .reset)
  | .host w => .ok (.hostop w)
  | .bus a => busWord a

/-- A word that is no instruction stops the step by name (assumption 7; 30_encoding.md R80). -/
def stopOf (e : DecodeError) : Host.Outcome State Fault Refusal :=
  match e with
  | .notAHostOperation w => .refused (.notAHostOperation w)
  | .reservedState c => .fault (.reservedState c)

/-- A raw word placed where the next step fetches: a STATE code in STATE with an ENGINE turn next, a host
operation word or an event as the next input. Assumption 14. -/
def State.placeWord (s : State) (raw : RawWord) : State :=
  match raw with
  | .engineState c => { s with blk := { s.blk with state := c }, agenda := .engine :: s.agenda }
  | .hostop w => { s with agenda := .host w :: s.agenda }
  | .event .tick => { s with agenda := .tick :: s.agenda }
  | .event .reset => { s with agenda := .reset :: s.agenda }

end Sys2Proof.Machine
end

