-- ==== Sys2Proof/Machine/Step.lean ====
section
/-! DEFINITION. One atomic step (10_state.md R21): take the next input, fetch its word, decode it, run it. -/

namespace Sys2Proof.Machine

def step (s : State) : Host.Outcome State Fault Refusal :=
  match fetchWord s.nextInput s.blk with
  | .error r => .refused r
  | .ok raw =>
    match decode raw with
    | .ok i => exec i s.takeInput
    | .error e => stopOf e

/-- `s` with a word of spec/opcode_table.json stored where `step` fetches next (assumption 14). -/
def State.withFetchWord (s : State) (nbits w : Nat) : State :=
  match tableWord nbits w with
  | some raw => s.placeWord raw
  | none => s

end Sys2Proof.Machine
end

