-- ==== Sys2Proof/Safety.lean ====
section
/-! DEFINITION. The terms claims use: runs under every interleaving and every sample answer (10_state.md R21,
R24, R41), weak fairness (R21), what every reachable state satisfies (R39) and the invariant that carries it,
what the host can observe (R40), and the counts the laws of a transaction speak of. -/

namespace Sys2Proof.Machine

/-! ### Runs -/

/-- The environment supplies the next input and LINE's next answer (10_state.md R21, R24). -/
def State.feed (s : State) (x : Input) (v : Bool) : State := { s with agenda := [x], line := [v] }

/-- `r 0, …, r n` is a run under the inputs `xs` and the answers `vs`: every interleaving and every sample
answer is such a pair. -/
def Run (r : Nat → State) (xs : Nat → Input) (vs : Nat → Bool) (n : Nat) : Prop :=
  ∀ k, k < n → step ((r k).feed (xs k) (vs k)) = .next (r (k + 1))

/-- A run without end (10_state.md R21). -/
def InfiniteRun (r : Nat → State) (xs : Nat → Input) (vs : Nat → Bool) : Prop :=
  ∀ k, step ((r k).feed (xs k) (vs k)) = .next (r (k + 1))

/-- Weak fairness: ENGINE takes infinitely many steps and TICK takes infinitely many steps (10_state.md R21). -/
def WeaklyFair (xs : Nat → Input) : Prop :=
  (∀ n, ∃ m, n ≤ m ∧ xs m = .engine) ∧ (∀ n, ∃ m, n ≤ m ∧ xs m = .tick)

/-- The states reachable from RESET by the rules of the spec (10_state.md R39). -/
inductive Reachable : State → Prop where
  | reset : Reachable State.reset
  | step (s t : State) (x : Input) (v : Bool) (hs : Reachable s)
      (ht : Machine.step (s.feed x v) = .next t) : Reachable t

/-- How many of the first `n` inputs are `x`. -/
def inputCount (x : Input) (xs : Nat → Input) : Nat → Nat
  | 0 => 0
  | n + 1 => inputCount x xs n + (if xs n = x then 1 else 0)

/-- How many ENGINE steps from step `a` on, `len` steps long, saw the level `v`. -/
def samplesSeen (v : Bool) (xs : Nat → Input) (vs : Nat → Bool) (a : Nat) : Nat → Nat
  | 0 => 0
  | len + 1 => samplesSeen v xs vs a len + (if xs (a + len) = .engine ∧ vs (a + len) = v then 1 else 0)

/-- The counts the BIT_LOW steps of the first `n` steps read when they completed a bit, in order: the t_i of
42_bit_acquisition.md R166. -/
def pulseCounts (r : Nat → State) (xs : Nat → Input) (vs : Nat → Bool) : Nat → List Word
  | 0 => []
  | n + 1 =>
    pulseCounts r xs vs n ++
      (if (r n).blk.state = St.bitLow ∧ xs n = .engine ∧ vs n = false then [(r n).blk.cnt] else [])

/-- Every BIT_HIGH wait of the first `n` steps sees a 1, and every BIT_LOW wait a 0, within `K` samples: no
wait takes `K` samples of the other level (43_checksum_and_completion.md R186). -/
def Responsive (r : Nat → State) (xs : Nat → Input) (vs : Nat → Bool) (K n : Nat) : Prop :=
  ∀ a len, a + len ≤ n →
    ((∀ k, k < len → (r (a + k)).blk.state = St.bitHigh) → samplesSeen false xs vs a len < K) ∧
    ((∀ k, k < len → (r (a + k)).blk.state = St.bitLow) → samplesSeen true xs vs a len < K)

/-! ### What every reachable state satisfies -/

/-- The handshake phases (41_start_and_handshake.md R144 to R146). -/
def Block.inHandshake (b : Block) : Prop := b.state = St.ackA ∨ b.state = St.ackB ∨ b.state = St.ackC

/-- The eleven items of 10_state.md R39. -/
structure Block.R39 (b : Block) : Prop where
  item1 : b.state.toNat ≤ 9
  item2 : b.bitidx.toNat ≤ 40
  item3 : b.run = true ↔ b.state = St.bitLow
  item4 : b.state = St.start ↔ b.busy = true ∧ b.lineOe = true ∧ b.lineOut = false
  item5 : b.inHandshake ∨ b.state = St.bitHigh ∨ b.state = St.bitLow ∨ b.state = St.check ∨
    b.state = St.done ∨ b.state = St.error → b.lineOe = false
  item6 : b.state = St.idle → b.initialized = true → b.lineOe = true ∧ b.lineOut = true
  item7 : b.pend ≠ Res.none ↔ b.state = St.error
  item8 : b.valid = true → b.state = St.idle ∧ b.result = Res.ok ∧ checksumOk b.reading = true
  item9 : b.valid = false → b.data0 = 0 ∧ b.data1 = 0
  item10 : b.dly.toNat ≤ startLowTicks.toNat
  item11 : b.busy = true → b.initialized = true ∧ b.actTimeout ≠ 0

/-- The invariant every step keeps: R39 and what it rests on. -/
structure Block.Inv (b : Block) : Prop extends Block.R39 b where
  /-- Codes 8 to 15 are never produced (30_encoding.md R87). -/
  legalResult : b.result.toNat ≤ 7
  legalPend : b.pend = Res.none ∨ b.pend = Res.rdTimeout ∨ b.pend = Res.rdChecksum
  /-- ACT_TIMEOUT is non-zero after a successful INIT (10_state.md R35). -/
  latched : b.initialized = true → b.actTimeout ≠ 0
  /-- RESULT is NONE while a transaction runs (10_state.md R30). -/
  busyResult : b.busy = true → b.result = Res.none
  /-- The budget of a handshake phase (41_start_and_handshake.md R147). -/
  budget : b.inHandshake → 1 ≤ b.polls.toNat ∧ b.polls.toNat ≤ b.actTimeout.toNat
  /-- No bit is taken before the handshake ends (41_start_and_handshake.md R148). -/
  emptyBuffer : b.state = St.start ∨ b.inHandshake → b.bitidx = 0 ∧ b.shift = 0
  /-- BIT_HIGH is entered with CNT = 0 (42_bit_acquisition.md R164). -/
  freshCount : b.state = St.bitHigh → b.cnt = 0
  bitsMissing : b.state = St.bitHigh ∨ b.state = St.bitLow → b.bitidx.toNat < 40
  allBits : b.state = St.check ∨ b.state = St.done → b.bitidx = nbits
  /-- DONE is entered only with a matching checksum (43_checksum_and_completion.md R183). -/
  checked : b.state = St.done → checksumOk b.shift = true
  /-- BIT_INDEX at report (60_exceptions.md R201). -/
  timeoutPending : b.pend = Res.rdTimeout → b.bitidx = 0 ∧ b.shift = 0
  checksumPending : b.pend = Res.rdChecksum → b.bitidx = nbits
  timeoutReported : b.result = Res.rdTimeout → b.bitidx = 0 ∧ b.shift = 0
  checksumReported : b.result = Res.rdChecksum → b.bitidx = nbits ∧ b.shift = 0
  /-- DATA1[31:8] is res0 (10_state.md R34). -/
  data1High : b.data1.toNat < 256

/-! ### Observation -/

/-- Two blocks the host's reads cannot tell apart: they agree on STATE, BITIDX, INITIALIZED, VALID, RESULT,
DATA0 and DATA1 (10_state.md R40) and on the staging registers. -/
structure Block.SameVisible (a b : Block) : Prop where
  state : a.state = b.state
  bitidx : a.bitidx = b.bitidx
  initialized : a.initialized = b.initialized
  valid : a.valid = b.valid
  result : a.result = b.result
  data0 : a.data0 = b.data0
  data1 : a.data1 = b.data1
  cfgPin : a.cfgPin = b.cfgPin
  cfgTimer : a.cfgTimer = b.cfgTimer
  timeout : a.timeout = b.timeout

/-- The line port as the environment sees it (10_state.md R36, R41). -/
def State.port (s : State) : Bool × Bool := (s.blk.lineOe, s.blk.lineOut)

/-- A run is quiescent when STATE = IDLE and HOST takes no further step (10_state.md R42). ENGINE and TICK may
still move, and RESET, which is an event and no HOST step (R20), may occur. -/
def Quiescent (s : State) (xs : Nat → Input) : Prop :=
  s.blk.state = St.idle ∧ ∀ n, (xs n).isHost = false

end Sys2Proof.Machine
end

