-- ==== Sys2Proof/Certificates/Slice0/Obligations.lean ====
section
/-! DEFINITION. What the provers prove of the model. Each docstring names the rule of spec/ it formalises; where a
clause rests on the model's own choice the docstring names the assumption. Codes and offsets are written out as
the spec's numbers. -/

open Sys2Proof Sys2Proof.Machine

/-! ### Encoding -/

/-- Decoding the encoding of a well-formed instruction gives it back, for every row and every operand
(30_encoding.md R80 to R86). -/
def Obligations.DecodeOfEncodeIsTheInstruction : Prop :=
  ∀ i : Instr, i.wf = true → decode (encode i) = .ok i

/-- Every 38-bit word decodes, to a well-formed instruction, and the row of that instruction is the one row of
spec/opcode_table.json the word matches (30_encoding.md R81, R85). -/
def Obligations.EveryHostWordDecodesToExactlyItsTableRow : Prop :=
  ∀ w : HowWord, howTop w = 0 → ∃ i r, decode (.hostop w) = .ok i ∧ i.wf = true ∧ i.row = some r ∧
    r ∈ hostRows ∧ r.matches w = true ∧ ∀ q, q ∈ hostRows → q.matches w = true → q = r

/-- Ignored DATA bits: a read decodes the same whatever its DATA, and a write to CTRL by DATA[1:0] alone, which
selects NOP, INIT, READ or the reserved command (30_encoding.md R82, R84, R88). -/
def Obligations.IgnoredDataBitsDoNotChangeTheDecoding : Prop :=
  (∀ (off : Offset) (d d' : Word), off.extractLsb' 0 2 = 0#2 →
    decode (.hostop (howWord false off d)) = decode (.hostop (howWord false off d'))) ∧
  (∀ d : Word,
    (d.extractLsb' 0 2 = 0#2 → decode (.hostop (howWord true 0x00#5 d)) = .ok .wrNop) ∧
    (d.extractLsb' 0 2 = 1#2 → decode (.hostop (howWord true 0x00#5 d)) = .ok .wrInit) ∧
    (d.extractLsb' 0 2 = 2#2 → decode (.hostop (howWord true 0x00#5 d)) = .ok .wrRead) ∧
    (d.extractLsb' 0 2 = 3#2 → decode (.hostop (howWord true 0x00#5 d)) = .ok .wrCmdRsvd))

/-- Words written out from the encodings of 30_encoding.md R80, R85 and R86 decode to what they stand for. The last
clause of each kind is the model's own choice, no words of the spec: that a word above 38 bits is refused as
`notAHostOperation` (assumption 9), and STATE 0xA as `reservedState` (assumption 7). -/
def Obligations.WordsOfTheSpecDecodeAsItSays : Prop :=
  decode (.hostop 0x0400000000) = .ok .rdStatus ∧
  decode (.hostop 0x1C00000000) = .ok (.rdRsvd 0x1C) ∧
  decode (.hostop 0x20FFFFFFFE) = .ok .wrRead ∧
  decode (.hostop 0x2800000205) = .ok (.wrConfig 0x205) ∧
  decode (.hostop 0x2C00000064) = .ok (.wrTimeout 100) ∧
  decode (.hostop 0x3012345678) = .ok (.wrData0 0x12345678) ∧
  decode (.hostop 0x0600000000) = .ok (.misaligned10 false 0x06 0) ∧
  decode (.hostop 0x2D00000000) = .ok (.misaligned01 true 0x0D 0) ∧
  decode (.hostop 0x4000000000) = .error (.notAHostOperation 0x4000000000) ∧
  decode (.engineState 0x6) = .ok .stepBitLow ∧
  decode (.engineState 0xA) = .error (.reservedState 0xA)

/-- The assembler's words (30_encoding.md R90, R91): `SETCFG p, t` is 0x280000ttpp and writes those identifiers,
`SETTO n` is 0x2C and the eight digits of n, and every `RD` and `WR` is the word of its register. -/
def Obligations.AssemblerWordsAreTheOperationsTheyName : Prop :=
  (∀ p t : Byte, (asmSetCfg p t).toNat = 0x2800000000 + 256 * t.toNat + p.toNat ∧
    ∃ d : Word, decode (.hostop (asmSetCfg p t)) = .ok (.wrConfig d) ∧
      d.extractLsb' 0 8 = p ∧ d.extractLsb' 8 8 = t) ∧
  (∀ n : Word, (asmSetTo n).toNat = 0x2C00000000 + n.toNat ∧
    decode (.hostop (asmSetTo n)) = .ok (.wrTimeout n)) ∧
  (∀ r : RegName, (asmRd r).toNat = r.offset.toNat * 2 ^ 32) ∧
  (∀ (r : RegName) (v : Word), (asmWr r v).toNat = 2 ^ 37 + r.offset.toNat * 2 ^ 32 + v.toNat) ∧
  asmNop = 0x2000000000#40 ∧ asmInit = 0x2000000001#40 ∧ asmRead = 0x2000000002#40

/-! ### The step -/

/-- A step takes the next pending input, decodes the word it fetches and runs that instruction: an ENGINE turn
runs the rule its STATE selects (10_state.md R22), a TICK R161 (R23), a HOST step its one access (R25), RESET
R230. With nothing pending, any agent may move: the free choice runs as if it were pending (assumption 1). -/
def Obligations.StepRunsTheDecodedInstruction : Prop :=
  (∀ (s : State) (rest : List Input) (i : Instr), s.agenda = .engine :: rest →
    decode (.engineState s.blk.state) = .ok i →
    step s = exec i { s with agenda := rest, draws := s.draws + 1 }) ∧
  (∀ (s : State) (rest : List Input) (w : HowWord) (i : Instr), s.agenda = .host w :: rest →
    decode (.hostop w) = .ok i → step s = exec i { s with agenda := rest, draws := s.draws + 1 }) ∧
  (∀ (s : State) (rest : List Input), s.agenda = .tick :: rest →
    step s = exec .tick { s with agenda := rest, draws := s.draws + 1 }) ∧
  (∀ (s : State) (rest : List Input), s.agenda = .reset :: rest →
    step s = exec .reset { s with agenda := rest, draws := s.draws + 1 }) ∧
  (∀ s : State, s.agenda = [] → step s = step { s with agenda := [Config.freeInput s.draws] })

/-- Each STATE code selects its rule (30_encoding.md R86), and an ENGINE step from a code 10 to 15 is the fault
`reservedState`, the model's own choice (assumption 7), after 93_implementation_defined.md section 2. -/
def Obligations.StateCodesSelectTheEngineRules : Prop :=
  decode (.engineState 0#4) = .ok .stepIdle ∧ decode (.engineState 1#4) = .ok .stepStart ∧
  decode (.engineState 2#4) = .ok .stepAckA ∧ decode (.engineState 3#4) = .ok .stepAckB ∧
  decode (.engineState 4#4) = .ok .stepAckC ∧ decode (.engineState 5#4) = .ok .stepBitHigh ∧
  decode (.engineState 6#4) = .ok .stepBitLow ∧ decode (.engineState 7#4) = .ok .stepCheck ∧
  decode (.engineState 8#4) = .ok .stepDone ∧ decode (.engineState 9#4) = .ok .stepError ∧
  ∀ (s : State) (rest : List Input), s.agenda = .engine :: rest → 10 ≤ s.blk.state.toNat →
    step s = .fault (.reservedState s.blk.state)

/-- A 32-bit access at BASE + off, inside the window, is the host operation {WE, off, DATA} (20_memory.md R61,
30_encoding.md R80). -/
def Obligations.BusAccessInTheWindowIsItsHostOperation : Prop :=
  ∀ (s : State) (rest : List Input) (we : Bool) (off : Offset) (data : Word),
    s.agenda = .bus { write := we, addr := Config.base + off.toNat, bytes := 4, data := data } :: rest →
    step s = step { s with agenda := .host (howWord we off (if we then data else 0)) :: rest }

/-- The unsupported accesses are refused, whatever the state: a misaligned host operation, and a bus access that is
narrower or wider than 32 bits, misaligned, or outside BASE to BASE + 31. That they are refused is the spec's
(20_memory.md R63, 40_host_interface.md R118). The reason each refusal names, and that the width is looked at
first, so that an access of another width outside the window is `unsupportedWidth`, are the model's own choice
(assumption 9). -/
def Obligations.UnsupportedAccessesAreRefused : Prop :=
  (∀ (we : Bool) (off : Offset) (data : Word) (s : State),
    exec (.misaligned01 we off data) s = .refused (.misalignedAccess we off) ∧
    exec (.misaligned10 we off data) s = .refused (.misalignedAccess we off) ∧
    exec (.misaligned11 we off data) s = .refused (.misalignedAccess we off)) ∧
  (∀ (s : State) (rest : List Input) (we : Bool) (off : Offset) (data : Word),
    s.agenda = .host (howWord we off data) :: rest → off.extractLsb' 0 2 ≠ 0#2 →
    step s = .refused (.misalignedAccess we off)) ∧
  (∀ (s : State) (rest : List Input) (a : BusAccess), s.agenda = .bus a :: rest →
    (a.bytes ≠ 4 → step s = .refused (.unsupportedWidth a.bytes)) ∧
    (a.bytes = 4 → (a.addr < Config.base ∨ Config.base + 31 < a.addr) →
      step s = .refused (.outsideWindow a.addr)) ∧
    (a.bytes = 4 → Config.base ≤ a.addr → a.addr ≤ Config.base + 31 → a.addr % 4 ≠ 0 →
      step s = .refused (.misalignedAccess a.write (BitVec.ofNat 5 (a.addr % 32)))))

/-- No step faults from a state that meets the invariant: the faults of the model never fire
(93_implementation_defined.md section 2). -/
def Obligations.NoStepFaultsUnderTheInvariant : Prop :=
  ∀ (s : State) (f : Fault), s.blk.Inv → step s ≠ .fault f

/-! ### Register reads -/

/-- RD_STATUS returns the word with BUSY at bit 0, INIT at 1, VALID at 2, 0 at 3, RESULT at [7:4], STATE at
[11:8], BIT_INDEX at [17:12] and 0 above, and changes no state; RESULT reads 0 while a transaction runs, which
holds under the invariant (40_host_interface.md R103, 10_state.md R30). -/
def Obligations.StatusReadShowsItsFields : Prop :=
  ∀ s : State, ∃ v : Word, exec .rdStatus s = .next { s with history := .busRead 0x04#5 v :: s.history } ∧
    v.getLsbD 0 = (s.blk.state != 0#4) ∧ v.getLsbD 1 = s.blk.initialized ∧ v.getLsbD 2 = s.blk.valid ∧
    v.getLsbD 3 = false ∧ v.extractLsb' 4 4 = s.blk.result ∧ v.extractLsb' 8 4 = s.blk.state ∧
    v.extractLsb' 12 6 = s.blk.bitidx ∧ v.extractLsb' 18 14 = 0#14 ∧
    (s.blk.Inv → s.blk.state ≠ 0#4 → v.extractLsb' 4 4 = 0#4)

/-- RD_CTRL and RD_RSVD return 0, RD_CONFIG the staging identifiers in [7:0] and [15:8] under zeros, RD_TIMEOUT
the staging budget; none changes any state (40_host_interface.md R102, R104, R105, R108). -/
def Obligations.ReadsOfCtrlConfigTimeoutAndReserved : Prop :=
  ∀ s : State,
    exec .rdCtrl s = .next { s with history := .busRead 0x00#5 0 :: s.history } ∧
    (∃ v : Word, exec .rdConfig s = .next { s with history := .busRead 0x08#5 v :: s.history } ∧
      v.extractLsb' 0 8 = s.blk.cfgPin ∧ v.extractLsb' 8 8 = s.blk.cfgTimer ∧ v.extractLsb' 16 16 = 0#16) ∧
    exec .rdTimeout s = .next { s with history := .busRead 0x0C#5 s.blk.timeout :: s.history } ∧
    ∀ off : Offset, exec (.rdRsvd off) s = .next { s with history := .busRead off 0 :: s.history }

/-- RD_DATA0 and RD_DATA1 return DATA0 and DATA1 and change no state; both are 0 whenever VALID = 0, and bits
[31:8] of DATA1 are always 0 (40_host_interface.md R106, R107). The last two clauses hold under the invariant. -/
def Obligations.DataReadsReturnTheReading : Prop :=
  ∀ s : State,
    exec .rdData0 s = .next { s with history := .busRead 0x10#5 s.blk.data0 :: s.history } ∧
    exec .rdData1 s = .next { s with history := .busRead 0x14#5 s.blk.data1 :: s.history } ∧
    (s.blk.Inv → s.blk.valid = false → s.blk.data0 = 0 ∧ s.blk.data1 = 0) ∧
    (s.blk.Inv → s.blk.data1.extractLsb' 8 24 = 0#24)

/-- POLLS, DLY, CNT, RUN, SHIFT, PEND, ACT_PIN, ACT_TIMER, ACT_TIMEOUT and the line outputs are hidden from the
host's reads: two blocks that agree on the rest answer every read alike, and no read changes either
(10_state.md R40, 20_memory.md R68). -/
def Obligations.ReadsRevealOnlyTheVisibleState : Prop :=
  ∀ (s s' : State) (off : Offset) (data : Word) (i : Instr),
    s.blk.SameVisible s'.blk → s.history = s'.history → off.extractLsb' 0 2 = 0#2 →
    decode (.hostop (howWord false off data)) = .ok i →
    ∃ t t', exec i s = .next t ∧ exec i s' = .next t' ∧ t.history = t'.history ∧
      t.blk = s.blk ∧ t'.blk = s'.blk

/-! ### Register writes and commands -/

/-- WR_CONFIG stores PIN_ID = DATA[7:0] and TIMER_ID = DATA[15:8] and nothing else, in every state, busy or not;
a read of CONFIG after it returns DATA[15:0] (40_host_interface.md R109, R104). -/
def Obligations.ConfigWriteStoresTheIdentifiers : Prop :=
  ∀ (s : State) (data : Word), ∃ t, exec (.wrConfig data) s = .next t ∧
    t = { s with blk := { s.blk with cfgPin := data.extractLsb' 0 8, cfgTimer := data.extractLsb' 8 8 } } ∧
    exec .rdConfig t = .next { t with history := .busRead 0x08#5 (data &&& 0xFFFF#32) :: t.history }

/-- WR_TIMEOUT stores DATA, all 32 bits, and nothing else, in every state: ACT_TIMEOUT does not change; a read
after it returns DATA (40_host_interface.md R110). -/
def Obligations.TimeoutWriteStoresTheBudget : Prop :=
  ∀ (s : State) (data : Word), ∃ t, exec (.wrTimeout data) s = .next t ∧
    t = { s with blk := { s.blk with timeout := data } } ∧
    exec .rdTimeout t = .next { t with history := .busRead 0x0C#5 data :: t.history }

/-- WR_STATUS, WR_DATA0, WR_DATA1 and WR_RSVD change nothing (40_host_interface.md R111). -/
def Obligations.WritesToReadOnlyOffsetsChangeNothing : Prop :=
  ∀ (s : State) (off : Offset) (data : Word),
    exec (.wrStatus data) s = .next s ∧ exec (.wrData0 data) s = .next s ∧
    exec (.wrData1 data) s = .next s ∧ exec (.wrRsvd off data) s = .next s

/-- Every command is dropped while STATE is not IDLE, and NOP and the reserved command change nothing in any
state (40_host_interface.md R112, R116, R117). -/
def Obligations.CommandsWhileBusyAreDropped : Prop :=
  ∀ s : State, exec .wrNop s = .next s ∧ exec .wrCmdRsvd s = .next s ∧
    (s.blk.state ≠ 0#4 → exec .wrInit s = .next s ∧ exec .wrRead s = .next s)

/-- INIT from IDLE completes in its one step, and for every choice of the OPEN predicates an invalid configuration
reports the first fault in the order port, timer, timeout, clears INITIALIZED, VALID, DATA0 and DATA1, and
touches nothing else: no line, no timer, no latched copy (40_host_interface.md R113, 60_exceptions.md R204). -/
def Obligations.InitReportsTheFirstConfigurationFault : Prop :=
  (∀ s : State, s.blk.state = 0#4 →
    exec .wrInit s = .next { s with blk := Block.initialize Config.hw s.blk }) ∧
  ∀ (p : Params) (b : Block),
    (p.validPin b.cfgPin = false → Block.initialize p b =
      { b with valid := false, data0 := 0, data1 := 0, result := 2#4, initialized := false }) ∧
    (p.validPin b.cfgPin = true → p.validTimer b.cfgTimer = false → Block.initialize p b =
      { b with valid := false, data0 := 0, data1 := 0, result := 3#4, initialized := false }) ∧
    (p.validPin b.cfgPin = true → p.validTimer b.cfgTimer = true → b.timeout = 0 → Block.initialize p b =
      { b with valid := false, data0 := 0, data1 := 0, result := 4#4, initialized := false })

/-- INIT (40_host_interface.md R113), accepted only from IDLE, completes in its one step: for every choice of the OPEN
predicates it clears VALID, DATA0 and DATA1, and then fails with a code and clears INITIALIZED, touching no line,
no timer and no latched copy, or latches the configuration, idles the line, stops and clears the timer, sets
INITIALIZED and reports OK. Nothing else changes. -/
def Obligations.InitValidatesAndLatchesTheConfiguration : Prop :=
  (∀ s : State,
    (s.blk.state = 0#4 → exec .wrInit s = .next { s with blk := Block.initialize Config.hw s.blk }) ∧
    (s.blk.state ≠ 0#4 → exec .wrInit s = .next s)) ∧
  ∀ (p : Params) (b : Block),
    Block.initialize p b =
      if p.validPin b.cfgPin = false then
        { b with valid := false, data0 := 0, data1 := 0, result := 2#4, initialized := false }
      else if p.validTimer b.cfgTimer = false then
        { b with valid := false, data0 := 0, data1 := 0, result := 3#4, initialized := false }
      else if b.timeout = 0 then
        { b with valid := false, data0 := 0, data1 := 0, result := 4#4, initialized := false }
      else
        { b with valid := false, data0 := 0, data1 := 0, actPin := b.cfgPin, actTimer := b.cfgTimer,
                 actTimeout := b.timeout, lineOe := true, lineOut := true, run := false, cnt := 0,
                 initialized := true, result := 1#4 }

/-- Two INITs from IDLE leave the block as one does, in every element, for valid and invalid configurations
(40_host_interface.md R119). -/
def Obligations.InitIsIdempotent : Prop :=
  ∀ s : State, s.blk.state = 0#4 → ∃ t u, exec .wrInit s = .next t ∧ exec .wrInit t = .next u ∧ u.blk = t.blk

/-- READ from IDLE with INITIALIZED = 0 clears VALID, DATA0 and DATA1, reports RD_NOT_INIT, and changes no line,
timer or engine state (40_host_interface.md R114). -/
def Obligations.ReadBeforeInitIsRefused : Prop :=
  ∀ s : State, s.blk.state = 0#4 → s.blk.initialized = false →
    exec .wrRead s = .next { s with blk := { s.blk with valid := false, data0 := 0, data1 := 0, result := 7#4 } }

/-- READ from IDLE with INITIALIZED = 1 forgets the old reading and the old transaction, drives the line low and
enters START (40_host_interface.md R115). -/
def Obligations.ReadStartsATransaction : Prop :=
  ∀ s : State, s.blk.state = 0#4 → s.blk.initialized = true →
    exec .wrRead s = .next { s with blk := { s.blk with
      valid := false, data0 := 0, data1 := 0, result := 0#4, pend := 0#4, shift := 0, bitidx := 0, dly := 0,
      polls := 0, run := false, lineOe := true, lineOut := false, state := 1#4 } }

/-! ### ENGINE steps: IDLE, START and the handshake -/

/-- The IDLE step changes nothing (10_state.md R48). -/
def Obligations.IdleStepChangesNothing : Prop :=
  ∀ s : State, exec .stepIdle s = .next s

/-- A quiescent run (10_state.md R42), from a state of the invariant: STATE is IDLE and HOST takes no further step,
whatever else moves. STATE stays IDLE; every ENGINE and every TICK step changes no element, the line port among
them, and shows no read and no sample. So nothing has changed or been shown as long as no RESET occurs, and after
one every element is at its reset value (R38). -/
def Obligations.QuiescentRunsChangeNothing : Prop :=
  ∀ (r : Nat → State) (xs : Nat → Input) (vs : Nat → Bool) (n : Nat), Run r xs vs n → Quiescent (r 0) xs →
    (r 0).blk.Inv →
    (r n).blk.state = 0#4 ∧
    (∀ k, k < n → xs k = .engine ∨ xs k = .tick →
      (r (k + 1)).blk = (r k).blk ∧ (r (k + 1)).history = (r k).history) ∧
    ((∀ k, k < n → xs k ≠ .reset) → (r n).blk = (r 0).blk ∧ (r n).history = (r 0).history) ∧
    ((∃ k, k < n ∧ xs k = .reset) → (r n).blk = State.reset.blk)

/-- The START step: with DLY = 20000 it releases the line high, switches it to input, loads phase (a)'s budget
and enters ACK_A; else it changes nothing (41_start_and_handshake.md R141). -/
def Obligations.StartStepReleasesTheLineAfter20000Ticks : Prop :=
  ∀ s : State,
    (s.blk.dly = 20000#16 → exec .stepStart s = .next { s with blk := { s.blk with
      lineOut := true, lineOe := false, polls := s.blk.actTimeout, state := 2#4 } }) ∧
    (s.blk.dly ≠ 20000#16 → exec .stepStart s = .next s)

/-- Phases (a) and (b): one sample each step; the awaited level (0, then 1) reloads the budget and enters the
next phase; the other level spends one poll, and the poll that brings POLLS to 0 fails with RD_TIMEOUT
(41_start_and_handshake.md R143, R144, R145). -/
def Obligations.AckPhasesAAndBWaitForTheirLevel : Prop :=
  ∀ s : State,
    (s.sampleLevel = false → exec .stepAckA s = .next { s.sampled with blk := { s.blk with
      polls := s.blk.actTimeout, state := 3#4 } }) ∧
    (s.sampleLevel = true → s.blk.polls ≠ 1 → exec .stepAckA s = .next { s.sampled with blk := { s.blk with
      polls := s.blk.polls - 1 } }) ∧
    (s.sampleLevel = true → s.blk.polls = 1 → exec .stepAckA s = .next { s.sampled with blk := { s.blk with
      polls := 0, pend := 5#4, state := 9#4 } }) ∧
    (s.sampleLevel = true → exec .stepAckB s = .next { s.sampled with blk := { s.blk with
      polls := s.blk.actTimeout, state := 4#4 } }) ∧
    (s.sampleLevel = false → s.blk.polls ≠ 1 → exec .stepAckB s = .next { s.sampled with blk := { s.blk with
      polls := s.blk.polls - 1 } }) ∧
    (s.sampleLevel = false → s.blk.polls = 1 → exec .stepAckB s = .next { s.sampled with blk := { s.blk with
      polls := 0, pend := 5#4, state := 9#4 } })

/-- Phase (c): a low sample resets the timer counter and enters BIT_HIGH (the budget is not reloaded,
BIT_WAIT_LIMIT is none; a limit would load it); a high one spends a poll or fails. BITIDX and RUN are 0 already,
under the invariant (41_start_and_handshake.md R146). -/
def Obligations.AckPhaseCEntersTheFirstBit : Prop :=
  ∀ s : State,
    (s.sampleLevel = false → exec .stepAckC s = .next { s.sampled with blk := { s.blk with
      cnt := 0, state := 5#4 } }) ∧
    (s.sampleLevel = true → s.blk.polls ≠ 1 → exec .stepAckC s = .next { s.sampled with blk := { s.blk with
      polls := s.blk.polls - 1 } }) ∧
    (s.sampleLevel = true → s.blk.polls = 1 → exec .stepAckC s = .next { s.sampled with blk := { s.blk with
      polls := 0, pend := 5#4, state := 9#4 } }) ∧
    (s.blk.Inv → s.blk.state = 4#4 → s.blk.bitidx = 0 ∧ s.blk.run = false) ∧
    ∀ (p : Params) (l : Word), p.bitWaitLimit = some l →
      Block.ackCRule p false s.blk = { s.blk with cnt := 0, polls := l, state := 5#4 }

/-- The handshake budget (41_start_and_handshake.md R147): on entry to a phase with POLLS = ACT_TIMEOUT, after
m samples of the wrong level POLLS = ACT_TIMEOUT - m, which is at least 1 before every sample, and the
ACT_TIMEOUT-th fails with RD_TIMEOUT, whatever TICK and HOST do meanwhile. -/
def Obligations.HandshakeBudgetIsExact : Prop :=
  ∀ (r : Nat → State) (xs : Nat → Input) (vs : Nat → Bool) (n : Nat) (c : Code) (level : Bool),
    Run r xs vs n → (c = 2#4 ∧ level = false ∨ c = 3#4 ∧ level = true ∨ c = 4#4 ∧ level = false) →
    (r 0).blk.Inv → (r 0).blk.state = c → (r 0).blk.polls = (r 0).blk.actTimeout →
    (∀ k, k < n → xs k ≠ .reset) → (∀ k, k < n → xs k = .engine → vs k = !level) →
    (inputCount .engine xs n < (r 0).blk.actTimeout.toNat →
      (r n).blk.state = c ∧ 1 ≤ (r n).blk.polls.toNat ∧
      (r n).blk.polls.toNat = (r 0).blk.actTimeout.toNat - inputCount .engine xs n) ∧
    (inputCount .engine xs n = (r 0).blk.actTimeout.toNat →
      inputCount .engine xs (n - 1) < (r 0).blk.actTimeout.toNat →
      (r n).blk.state = 9#4 ∧ (r n).blk.pend = 5#4)

/-- A handshake timeout reaches ERROR with SHIFT, BITIDX, DATA0, DATA1 and VALID all 0, and the ERROR step reports
RD_TIMEOUT (41_start_and_handshake.md R148). -/
def Obligations.HandshakeTimeoutReturnsNoPartialData : Prop :=
  ∀ (s t : State) (rest : List Input), s.blk.Inv → s.blk.inHandshake → s.agenda = .engine :: rest →
    step s = .next t → t.blk.state = 9#4 →
    t.blk.shift = 0 ∧ t.blk.bitidx = 0 ∧ t.blk.data0 = 0 ∧ t.blk.data1 = 0 ∧ t.blk.valid = false ∧
    ∃ u, exec .stepError t = .next u ∧ u.blk.result = 5#4 ∧ u.blk.state = 0#4

/-- ENGINE samples exactly once in each step whose STATE is ACK_A, ACK_B, ACK_C, BIT_HIGH or BIT_LOW, takes LINE's
answer, and records it as (STATE, value); in no other step does it sample (10_state.md R24). -/
def Obligations.EngineSamplesExactlyOnceInSamplingStates : Prop :=
  ∀ (s : State) (rest : List Input) (v : Bool) (later : List Bool), s.agenda = .engine :: rest →
    s.line = v :: later → s.blk.pend.toNat < 8 →
    (2 ≤ s.blk.state.toNat → s.blk.state.toNat ≤ 6 →
      ∃ t, step s = .next t ∧ t.line = later ∧ t.history = .sample s.blk.state v :: s.history) ∧
    (s.blk.state.toNat < 2 ∨ 6 < s.blk.state.toNat ∧ s.blk.state.toNat ≤ 9 →
      ∃ t, step s = .next t ∧ t.line = s.line ∧ t.history = s.history)

/-! ### The timer, the decoder and the bits -/

/-- A TICK: CNT counts modulo 2^32 while RUN = 1, DLY counts in START and saturates at 20000, and nothing else
changes (42_bit_acquisition.md R161). -/
def Obligations.TickCountsTheTimerAndTheStartPulse : Prop :=
  ∀ s : State, ∃ (c : Word) (d : BitVec 16),
    exec .tick s = .next { s with blk := { s.blk with cnt := c, dly := d } } ∧
    (s.blk.run = true → c.toNat = (s.blk.cnt.toNat + 1) % 2 ^ 32) ∧ (s.blk.run = false → c = s.blk.cnt) ∧
    (s.blk.state = 1#4 → s.blk.dly.toNat < 20000 → d.toNat = s.blk.dly.toNat + 1) ∧
    (s.blk.state ≠ 1#4 ∨ 20000 ≤ s.blk.dly.toNat → d = s.blk.dly)

/-- classify(t) is 1 exactly when t > THRESHOLD, unsigned and strict; so it is 0 at 0 and at THRESHOLD, 1 at
THRESHOLD + 1 when that does not wrap, and 0 everywhere when THRESHOLD is the largest value
(42_bit_acquisition.md R162). -/
def Obligations.ClassifyIsStrictAndUnsigned : Prop :=
  ∀ threshold t : Word,
    (classify threshold t = true ↔ threshold.toNat < t.toNat) ∧
    classify threshold 0 = false ∧ classify threshold threshold = false ∧
    (threshold.toNat < 0xFFFFFFFF → classify threshold (threshold + 1) = true) ∧
    classify 0xFFFFFFFF#32 t = false

/-- pack(v, i, b) replaces bit 39 - i of v by b and no other; that bit is bit 7 - (i mod 8) of byte i div 8
(42_bit_acquisition.md R163, 20_memory.md R65). -/
def Obligations.PackReplacesOneBitInTransactionOrder : Prop :=
  ∀ (v : Buffer) (i : BitVec 6) (b : Bool), i.toNat ≤ 39 →
    (∀ j, j < 40 → (pack v i b).getLsbD j = if j = 39 - i.toNat then b else v.getLsbD j) ∧
    (byteK (i.toNat / 8) (pack v i b)).getLsbD (7 - i.toNat % 8) = b

/-- The BIT_HIGH step: a high sample starts the timer and enters BIT_LOW; a low one changes nothing, for the wait
is unbounded. CNT and RUN are 0 before it, under the invariant. With a BIT_WAIT_LIMIT, the rise loads POLLS and a
low sample spends one or fails with RD_TIMEOUT (42_bit_acquisition.md R164). -/
def Obligations.BitHighStepStartsTheTimerOnTheRise : Prop :=
  ∀ s : State,
    (s.sampleLevel = true → exec .stepBitHigh s = .next { s.sampled with blk := { s.blk with
      run := true, state := 6#4 } }) ∧
    (s.sampleLevel = false → exec .stepBitHigh s = .next s.sampled) ∧
    (s.blk.Inv → s.blk.state = 5#4 → s.blk.cnt = 0 ∧ s.blk.run = false) ∧
    ∀ (p : Params) (l : Word), p.bitWaitLimit = some l →
      Block.bitHighRule p true s.blk = { s.blk with run := true, polls := l, state := 6#4 } ∧
      (s.blk.polls ≠ 1 → Block.bitHighRule p false s.blk = { s.blk with polls := s.blk.polls - 1 }) ∧
      (s.blk.polls = 1 → Block.bitHighRule p false s.blk = { s.blk with polls := 0, pend := 5#4, state := 9#4 })

/-- The BIT_LOW step: a low sample stops the timer, packs the classified count into bit BITIDX and advances it,
then enters CHECK after the 40th bit (CNT kept) or BIT_HIGH with CNT = 0; a high one changes nothing
(42_bit_acquisition.md R165). In BIT_LOW, BITIDX is below 40 under the invariant. With a BIT_WAIT_LIMIT, the next
bit loads POLLS and a high sample spends one, or fails with RD_TIMEOUT and stops the timer. -/
def Obligations.BitLowStepTakesTheBitOnTheFall : Prop :=
  ∀ s : State,
    (s.sampleLevel = true → exec .stepBitLow s = .next s.sampled) ∧
    (s.sampleLevel = false → s.blk.bitidx.toNat < 39 →
      exec .stepBitLow s = .next { s.sampled with blk := { s.blk with
        run := false, cnt := 0, bitidx := s.blk.bitidx + 1, state := 5#4,
        shift := pack s.blk.shift s.blk.bitidx (classify Config.threshold s.blk.cnt) } }) ∧
    (s.sampleLevel = false → s.blk.bitidx = 39#6 →
      exec .stepBitLow s = .next { s.sampled with blk := { s.blk with
        run := false, bitidx := 40#6, state := 7#4,
        shift := pack s.blk.shift s.blk.bitidx (classify Config.threshold s.blk.cnt) } }) ∧
    (s.blk.Inv → s.blk.state = 6#4 → s.blk.bitidx.toNat < 40) ∧
    ∀ (p : Params) (l : Word), p.bitWaitLimit = some l →
      (s.blk.bitidx.toNat < 39 → Block.bitLowRule p false s.blk = { s.blk with
        run := false, cnt := 0, polls := l, bitidx := s.blk.bitidx + 1, state := 5#4,
        shift := pack s.blk.shift s.blk.bitidx (classify p.threshold s.blk.cnt) }) ∧
      (s.blk.polls ≠ 1 → Block.bitLowRule p true s.blk = { s.blk with polls := s.blk.polls - 1 }) ∧
      (s.blk.polls = 1 →
        Block.bitLowRule p true s.blk = { s.blk with polls := 0, run := false, pend := 5#4, state := 9#4 })

/-- The parameter BIT_WAIT_LIMIT = some L, L at least 1 (42_bit_acquisition.md R167): every entry into BIT_HIGH and
into BIT_LOW, whichever rule makes it, loads POLLS with L; after m wrong samples in a row, m below L, POLLS is
L - m and nothing else has changed, and the L-th fails with RD_TIMEOUT (stopping the timer in BIT_LOW). The rules
take the parameter as an argument; this hardware has none. -/
def Obligations.BoundedBitWaitsFailAtTheirLimit : Prop :=
  Config.hw.bitWaitLimit = none ∧
  ∀ (p : Params) (l : Word), p.bitWaitLimit = some l → 1 ≤ l.toNat →
    (∀ b : Block, ((Block.ackCRule p false b).polls = l ∧ (Block.ackCRule p false b).state = 5#4) ∧
      ((Block.bitHighRule p true b).polls = l ∧ (Block.bitHighRule p true b).state = 6#4) ∧
      (b.bitidx.toNat < 39 →
        (Block.bitLowRule p false b).polls = l ∧ (Block.bitLowRule p false b).state = 5#4)) ∧
    ∀ (b : Block) (m : Nat), b.polls = l →
      (m < l.toNat →
        (Block.bitHighRule p false)^[m] b = { b with polls := l - BitVec.ofNat 32 m } ∧
        (Block.bitLowRule p true)^[m] b = { b with polls := l - BitVec.ofNat 32 m }) ∧
      (m = l.toNat →
        (Block.bitHighRule p false)^[m] b = { b with polls := 0, pend := 5#4, state := 9#4 } ∧
        (Block.bitLowRule p true)^[m] b = { b with polls := 0, run := false, pend := 5#4, state := 9#4 })

/-- The acquired buffer (42_bit_acquisition.md R166): when a transaction that has taken no bit yet (from its READ on,
up to the first BIT_HIGH) reaches CHECK, the BIT_LOW steps have completed 40 bits, and byte k of SHIFT is the sum
over j = 0..7 of classify(t_(8k+j)) << (7 - j), t_i being the CNT read by the step that completed bit i. -/
def Obligations.AcquiredBufferIsTheClassifiedPulses : Prop :=
  ∀ (r : Nat → State) (xs : Nat → Input) (vs : Nat → Bool) (n : Nat), Run r xs vs n →
    (r 0).blk.Inv → 1 ≤ (r 0).blk.state.toNat → (r 0).blk.state.toNat ≤ 5 → (r 0).blk.bitidx = 0 →
    (∀ k, k < n → xs k ≠ .reset) → (∀ k, k ≤ n → (r k).blk.state ≠ 0#4) → (r n).blk.state = 7#4 →
    (pulseCounts r xs vs n).length = 40 ∧
    ∀ k, k < 5 → (byteK k (r n).blk.shift).toNat =
      ((List.range 8).map fun j =>
        if classify Config.threshold ((pulseCounts r xs vs n).getD (8 * k + j) 0) then 2 ^ (7 - j) else 0).sum

/-- The measured pulse width (42_bit_acquisition.md R168): from the BIT_HIGH step that saw 1, as long as the block
stays in BIT_LOW, CNT is the number of TICK steps since, modulo 2^32. -/
def Obligations.PulseWidthCountsTheTicks : Prop :=
  ∀ (r : Nat → State) (xs : Nat → Input) (vs : Nat → Bool) (n : Nat), Run r xs vs n → 1 ≤ n →
    (r 0).blk.Inv → (r 0).blk.state = 5#4 → xs 0 = .engine → vs 0 = true →
    (∀ k, 1 ≤ k → k ≤ n → (r k).blk.state = 6#4) →
    (r n).blk.cnt.toNat = inputCount .tick xs n % 2 ^ 32

/-! ### Checksum, completion and error -/

/-- byte_k and checksum_ok on a buffer made of five bytes (43_checksum_and_completion.md R181): byte 0 is the most
significant, and the checksum matches exactly when the sum of bytes 0 to 3 mod 256 is byte 4. -/
def Obligations.ChecksumIsTheByteSum : Prop :=
  ∀ b0 b1 b2 b3 b4 : Byte,
    byteK 0 (b0 ++ b1 ++ b2 ++ b3 ++ b4) = b0 ∧ byteK 1 (b0 ++ b1 ++ b2 ++ b3 ++ b4) = b1 ∧
    byteK 2 (b0 ++ b1 ++ b2 ++ b3 ++ b4) = b2 ∧ byteK 3 (b0 ++ b1 ++ b2 ++ b3 ++ b4) = b3 ∧
    byteK 4 (b0 ++ b1 ++ b2 ++ b3 ++ b4) = b4 ∧
    (checksumOk (b0 ++ b1 ++ b2 ++ b3 ++ b4) = true ↔
      (b0.toNat + b1.toNat + b2.toNat + b3.toNat) % 256 = b4.toNat)

/-- Any single-bit error in the 40 bits is detected (43_checksum_and_completion.md R182, 90_conflicts.md C7). -/
def Obligations.SingleBitErrorsAreDetected : Prop :=
  ∀ (v : Buffer) (j : Nat), j < 40 → checksumOk v = true → checksumOk (v ^^^ (1#40 <<< j)) = false

/-- The CHECK step: DONE on a match, else PEND <- RD_CHECKSUM and ERROR (43_checksum_and_completion.md R182). -/
def Obligations.CheckStepComparesTheChecksum : Prop :=
  ∀ s : State,
    (checksumOk s.blk.shift = true → exec .stepCheck s = .next { s with blk := { s.blk with state := 8#4 } }) ∧
    (checksumOk s.blk.shift = false →
      exec .stepCheck s = .next { s with blk := { s.blk with pend := 6#4, state := 9#4 } })

/-- The DONE step: the idle line restored, byte k of SHIFT on lane k of DATA0 for k = 0..3, byte 4 in DATA1[7:0]
under zeros, VALID and OK, IDLE, and nothing else changed (43_checksum_and_completion.md R183,
20_memory.md R66). -/
def Obligations.DoneStepPublishesTheReading : Prop :=
  ∀ s : State, ∃ d0 d1 : Word,
    exec .stepDone s = .next { s with blk := { s.blk with
      lineOe := true, lineOut := true, data0 := d0, data1 := d1, valid := true, result := 1#4, state := 0#4 } } ∧
    (∀ k, k < 4 → d0.extractLsb' (8 * k) 8 = s.blk.shift.extractLsb' (32 - 8 * k) 8) ∧
    d1.extractLsb' 0 8 = s.blk.shift.extractLsb' 0 8 ∧ d1.extractLsb' 8 24 = 0#24

/-- The ERROR step: the idle line restored, the timer stopped, SHIFT discarded, PEND moved to RESULT, IDLE, and
nothing else, BITIDX among it, changed (43_checksum_and_completion.md R184). That a PEND of 8 to 15, which no rule
writes, is the fault `reservedResult` is the model's own choice (assumption 7), after 93_implementation_defined.md
section 2. -/
def Obligations.ErrorStepReportsAndRestoresTheLine : Prop :=
  ∀ s : State,
    (s.blk.pend.toNat < 8 → exec .stepError s = .next { s with blk := { s.blk with
      lineOe := true, lineOut := true, run := false, shift := 0, result := s.blk.pend, pend := 0#4,
      state := 0#4 } }) ∧
    (8 ≤ s.blk.pend.toNat → exec .stepError s = .fault (.reservedResult s.blk.pend))

/-- A buffer that fails its checksum leaves no trace: two transactions that differ only in SHIFT, both failing,
end in the same state (10_state.md R40, 43_checksum_and_completion.md R184). -/
def Obligations.RejectedBufferLeavesNoTrace : Prop :=
  ∀ (s : State) (v : Buffer), s.blk.pend.toNat < 8 → checksumOk s.blk.shift = false → checksumOk v = false →
    ∃ t t' u, exec .stepCheck s = .next t ∧
      exec .stepCheck { s with blk := { s.blk with shift := v } } = .next t' ∧
      exec .stepError t = .next u ∧ exec .stepError t' = .next u

/-! ### Laws of a transaction -/

/-- The outcomes (43_checksum_and_completion.md R185): in a weakly fair run without RESET from an accepted READ,
the transaction reaches IDLE with OK and VALID, with RD_TIMEOUT and no data, or with RD_CHECKSUM and no data,
or it stays for ever in BIT_HIGH or in BIT_LOW. -/
def Obligations.EveryTransactionEndsOrHangsInABitWait : Prop :=
  ∀ (r : Nat → State) (xs : Nat → Input) (vs : Nat → Bool) (s : State), InfiniteRun r xs vs →
    WeaklyFair xs → (∀ k, xs k ≠ .reset) → s.blk.Inv → s.blk.state = 0#4 → s.blk.initialized = true →
    exec .wrRead s = .next (r 0) →
    (∃ n, (∀ k, k < n → (r k).blk.state ≠ 0#4) ∧ (r n).blk.state = 0#4 ∧
      ((r n).blk.result = 1#4 ∧ (r n).blk.valid = true ∨
       (r n).blk.result = 5#4 ∧ (r n).blk.valid = false ∨
       (r n).blk.result = 6#4 ∧ (r n).blk.valid = false)) ∨
    (∃ n, ∀ k, n ≤ k → (r k).blk.state = 5#4) ∨ (∃ n, ∀ k, n ≤ k → (r k).blk.state = 6#4)

/-- Completion with a responsive line (43_checksum_and_completion.md R186): if every bit wait sees its level within
K samples, the transaction is IDLE within 3 * ACT_TIMEOUT + 80 * K + 2 ENGINE steps of leaving START. -/
def Obligations.ResponsiveLineBoundsTheTransaction : Prop :=
  ∀ (r : Nat → State) (xs : Nat → Input) (vs : Nat → Bool) (n K : Nat), Run r xs vs n →
    (r 0).blk.Inv → (r 0).blk.state = 2#4 → (r 0).blk.polls = (r 0).blk.actTimeout →
    (∀ k, k < n → xs k ≠ .reset) → 1 ≤ K → Responsive r xs vs K n →
    3 * (r 0).blk.actTimeout.toNat + 80 * K + 2 ≤ inputCount .engine xs n →
    ∃ k, k ≤ n ∧ (r k).blk.state = 0#4

/-- In every weakly fair run without RESET, START ends: the block leaves it for ACK_A (43_checksum_and_completion.md
R186: START ends after 20000 TICK steps and one more ENGINE step; 10_state.md R21). -/
def Obligations.StartEndsInEveryFairRun : Prop :=
  ∀ (r : Nat → State) (xs : Nat → Input) (vs : Nat → Bool), InfiniteRun r xs vs → WeaklyFair xs →
    (∀ k, xs k ≠ .reset) → (r 0).blk.Inv → (r 0).blk.state = 1#4 →
    ∃ n, (∀ k, k ≤ n → (r k).blk.state = 1#4) ∧ (r (n + 1)).blk.state = 2#4

/-- No corrupt data (43_checksum_and_completion.md R187): in every reachable state, and in every state of the invariant,
RESULT of RD_TIMEOUT, RD_CHECKSUM or RD_NOT_INIT means VALID, DATA0 and DATA1 are 0, and for the first two SHIFT
is 0. -/
def Obligations.FailedReadsNeverShowData : Prop :=
  ∀ s : State, Reachable s ∨ s.blk.Inv →
    (s.blk.result = 5#4 ∨ s.blk.result = 6#4 ∨ s.blk.result = 7#4 →
      s.blk.valid = false ∧ s.blk.data0 = 0 ∧ s.blk.data1 = 0) ∧
    (s.blk.result = 5#4 ∨ s.blk.result = 6#4 → s.blk.shift = 0)

/-- The idle line (43_checksum_and_completion.md R188): after every DONE or ERROR step LINE_OE = 1 and
LINE_OUT = 1, and a READ issued at once is accepted. -/
def Obligations.IdleLineAfterEveryTransactionAllowsARetry : Prop :=
  ∀ s : State, s.blk.Inv →
    (s.blk.state = 8#4 → ∃ t u, exec .stepDone s = .next t ∧ t.blk.lineOe = true ∧ t.blk.lineOut = true ∧
      exec .wrRead t = .next u ∧ u.blk.state = 1#4) ∧
    (s.blk.state = 9#4 → ∃ t u, exec .stepError s = .next t ∧ t.blk.lineOe = true ∧ t.blk.lineOut = true ∧
      exec .wrRead t = .next u ∧ u.blk.state = 1#4)

/-- The start pulse (41_start_and_handshake.md R142): from the READ acceptance on, the block is in START with
LINE_OE = 1 and LINE_OUT = 0 until at least 20000 TICK steps have occurred, and for as long as it is in START. -/
def Obligations.StartPulseLastsAtLeast20000Ticks : Prop :=
  ∀ (r : Nat → State) (xs : Nat → Input) (vs : Nat → Bool) (n : Nat) (s : State), Run r xs vs n →
    s.blk.state = 0#4 → s.blk.initialized = true → exec .wrRead s = .next (r 0) →
    (∀ k, k < n → xs k ≠ .reset) →
    (inputCount .tick xs n < 20000 →
      (r n).blk.state = 1#4 ∧ (r n).blk.lineOe = true ∧ (r n).blk.lineOut = false) ∧
    ((∀ k, k ≤ n → (r k).blk.state = 1#4) → (r n).blk.lineOe = true ∧ (r n).blk.lineOut = false)

/-- The unbounded waits (60_exceptions.md R215): as long as BIT_HIGH samples only 0, or BIT_LOW only 1, the block
stays there whatever the host does, and RESULT does not change (it is NONE, under the invariant); RESET ends it. -/
def Obligations.UnboundedBitWaitsOutlastEveryHostCommand : Prop :=
  ∀ (r : Nat → State) (xs : Nat → Input) (vs : Nat → Bool) (n : Nat) (c : Code) (wrong : Bool),
    Run r xs vs n → (c = 5#4 ∧ wrong = false ∨ c = 6#4 ∧ wrong = true) → (r 0).blk.state = c →
    (∀ k, k < n → xs k ≠ .reset) → (∀ k, k < n → xs k = .engine → vs k = wrong) →
    (r n).blk.state = c ∧ (r n).blk.result = (r 0).blk.result ∧ ((r 0).blk.Inv → (r n).blk.result = 0#4) ∧
    ∃ t, exec .reset (r n) = .next t ∧ t.blk.state = 0#4

/-- The hang is there (43_checksum_and_completion.md R185 (d), 60_exceptions.md R215): from every state in BIT_HIGH, and
from every state in BIT_LOW, some weakly fair infinite run without RESET stays there for ever. -/
def Obligations.TheHangIsAFairRun : Prop :=
  ∀ s : State, s.blk.state = 5#4 ∨ s.blk.state = 6#4 →
    ∃ (r : Nat → State) (xs : Nat → Input) (vs : Nat → Bool), r 0 = s ∧ InfiniteRun r xs vs ∧ WeaklyFair xs ∧
      (∀ k, xs k ≠ .reset) ∧ ∀ n, (r n).blk.state = s.blk.state

/-! ### Reset -/

/-- RESET sets every element to its value of 10_state.md R38, from any state, ends any transaction, and the next
READ is refused with RD_NOT_INIT (70_reset_and_hazards.md R230, R231, R232). That the pending inputs, the pending
answers, the draw counter and the run's history stay is the model's own inference, no words of the spec
(assumption 16, DEDUCED). -/
def Obligations.ResetSetsEveryElement : Prop :=
  ∀ s : State, ∃ t, exec .reset s = .next t ∧
    t = { s with blk :=
      { state := 0#4, bitidx := 0#6, polls := 0#32, dly := 0#16, cnt := 0#32, run := false, shift := 0#40,
        pend := 0#4, actPin := 0#8, actTimer := 0#8, actTimeout := 0#32, initialized := false, valid := false,
        result := 0#4, data0 := 0x00000000#32, data1 := 0x00000000#32, cfgPin := 0#8, cfgTimer := 0#8,
        timeout := 0x00000000#32, lineOe := false, lineOut := true } } ∧
    exec .rdStatus t = .next { t with history := .busRead 0x04#5 0x00000000#32 :: t.history } ∧
    exec .wrRead t = .next { t with blk := { t.blk with result := 7#4 } }

/-! ### Whole-machine rules -/

/-- The transitions of the ENGINE (30_encoding.md R92), for every ENGINE step from a state of the invariant; and no
other agent changes STATE but RESET (to IDLE) and an accepted READ (IDLE to START). -/
def Obligations.EngineFollowsTheTransitionTable : Prop :=
  (∀ (s t : State) (rest : List Input) (v : Bool) (later : List Bool), s.blk.Inv →
    s.agenda = .engine :: rest → s.line = v :: later → step s = .next t →
    (s.blk.state = 0#4 → t.blk.state = 0#4) ∧
    (s.blk.state = 1#4 → t.blk.state = if s.blk.dly = 20000#16 then 2#4 else 1#4) ∧
    (s.blk.state = 2#4 → t.blk.state = if v = false then 3#4 else if s.blk.polls = 1 then 9#4 else 2#4) ∧
    (s.blk.state = 3#4 → t.blk.state = if v = true then 4#4 else if s.blk.polls = 1 then 9#4 else 3#4) ∧
    (s.blk.state = 4#4 → t.blk.state = if v = false then 5#4 else if s.blk.polls = 1 then 9#4 else 4#4) ∧
    (s.blk.state = 5#4 → t.blk.state = if v = true then 6#4 else 5#4) ∧
    (s.blk.state = 6#4 → t.blk.state = if v = true then 6#4 else
      if s.blk.bitidx.toNat + 1 < 40 then 5#4 else 7#4) ∧
    (s.blk.state = 7#4 → t.blk.state = if checksumOk s.blk.shift = true then 8#4 else 9#4) ∧
    (s.blk.state = 8#4 → t.blk.state = 0#4) ∧ (s.blk.state = 9#4 → t.blk.state = 0#4)) ∧
  (∀ (s t : State), step s = .next t → s.nextInput ≠ .engine →
    t.blk.state = s.blk.state ∨ (s.nextInput = .reset ∧ t.blk.state = 0#4) ∨
    (s.blk.state = 0#4 ∧ s.blk.initialized = true ∧ t.blk.state = 1#4 ∧ ∃ raw, fetchWord s.nextInput s.blk = .ok raw ∧ decode raw = .ok .wrRead))

/-- Which instructions write the host-visible and latched elements (10_state.md R33, R34, R35, R37; 20_memory.md R67):
in every state, an instruction that is not named for an element leaves it unchanged. -/
def Obligations.HostVisibleElementsChangeOnlyWhereTheSpecSays : Prop :=
  ∀ (i : Instr) (s t : State), exec i s = .next t →
    (t.blk.data0 ≠ s.blk.data0 ∨ t.blk.data1 ≠ s.blk.data1 ∨ t.blk.valid ≠ s.blk.valid →
      i = .wrInit ∨ i = .wrRead ∨ i = .stepDone ∨ i = .reset) ∧
    (t.blk.result ≠ s.blk.result →
      i = .wrInit ∨ i = .wrRead ∨ i = .stepDone ∨ i = .stepError ∨ i = .reset) ∧
    (t.blk.initialized ≠ s.blk.initialized ∨ t.blk.actPin ≠ s.blk.actPin ∨ t.blk.actTimer ≠ s.blk.actTimer ∨
      t.blk.actTimeout ≠ s.blk.actTimeout → i = .wrInit ∨ i = .reset) ∧
    (t.blk.cfgPin ≠ s.blk.cfgPin ∨ t.blk.cfgTimer ≠ s.blk.cfgTimer → (∃ d, i = .wrConfig d) ∨ i = .reset) ∧
    (t.blk.timeout ≠ s.blk.timeout → (∃ d, i = .wrTimeout d) ∨ i = .reset)

/-- Which instructions write the engine's and the line's elements (10_state.md R35; READ writes POLLS too,
40_host_interface.md R115, assumption 10). -/
def Obligations.EngineElementsChangeOnlyWhereTheSpecSays : Prop :=
  ∀ (i : Instr) (s t : State), exec i s = .next t →
    (t.blk.bitidx ≠ s.blk.bitidx → i = .wrRead ∨ i = .stepBitLow ∨ i = .reset) ∧
    (t.blk.polls ≠ s.blk.polls →
      i = .wrRead ∨ i = .stepStart ∨ i = .stepAckA ∨ i = .stepAckB ∨ i = .stepAckC ∨ i = .reset) ∧
    (t.blk.dly ≠ s.blk.dly → i = .wrRead ∨ i = .tick ∨ i = .reset) ∧
    (t.blk.cnt ≠ s.blk.cnt → i = .wrInit ∨ i = .stepAckC ∨ i = .stepBitLow ∨ i = .tick ∨ i = .reset) ∧
    (t.blk.run ≠ s.blk.run →
      i = .wrInit ∨ i = .wrRead ∨ i = .stepBitHigh ∨ i = .stepBitLow ∨ i = .stepError ∨ i = .reset) ∧
    (t.blk.shift ≠ s.blk.shift → i = .wrRead ∨ i = .stepBitLow ∨ i = .stepError ∨ i = .reset) ∧
    (t.blk.pend ≠ s.blk.pend →
      i = .wrRead ∨ i = .stepAckA ∨ i = .stepAckB ∨ i = .stepAckC ∨ i = .stepCheck ∨ i = .stepError ∨
      i = .reset) ∧
    (t.blk.lineOe ≠ s.blk.lineOe ∨ t.blk.lineOut ≠ s.blk.lineOut →
      i = .wrInit ∨ i = .wrRead ∨ i = .stepStart ∨ i = .stepDone ∨ i = .stepError ∨ i = .reset)

/-! ### The invariant -/

/-- The eleven items of 10_state.md R39 hold in every state reachable from RESET, under every interleaving and every
sample answer. -/
def Obligations.ReachableStatesSatisfyR39 : Prop :=
  ∀ s : State, Reachable s → s.blk.R39

/-- Every step that completes keeps the invariant, from every state that meets it, reachable or not. -/
def Obligations.EveryStepKeepsTheInvariant : Prop :=
  ∀ s t : State, s.blk.Inv → step s = .next t → t.blk.Inv

/-- The invariant holds after reset (10_state.md R38). -/
def Obligations.InvariantHoldsAtReset : Prop :=
  State.reset.blk.Inv
end

