-- ==== Sys2Proof/Laws/State.lean ====
section
/-! SUPPORT. What each named update does to each field, by definition: later proofs never unfold a record
update. -/

namespace Sys2Proof.Machine

variable (b : Block) (s : State)

/-! ### goto -/

@[simp] theorem Block.goto_state (st : Code) : (b.goto st).state = st := rfl
@[simp] theorem Block.goto_bitidx (st : Code) : (b.goto st).bitidx = b.bitidx := rfl
@[simp] theorem Block.goto_polls (st : Code) : (b.goto st).polls = b.polls := rfl
@[simp] theorem Block.goto_dly (st : Code) : (b.goto st).dly = b.dly := rfl
@[simp] theorem Block.goto_cnt (st : Code) : (b.goto st).cnt = b.cnt := rfl
@[simp] theorem Block.goto_run (st : Code) : (b.goto st).run = b.run := rfl
@[simp] theorem Block.goto_shift (st : Code) : (b.goto st).shift = b.shift := rfl
@[simp] theorem Block.goto_pend (st : Code) : (b.goto st).pend = b.pend := rfl
@[simp] theorem Block.goto_actPin (st : Code) : (b.goto st).actPin = b.actPin := rfl
@[simp] theorem Block.goto_actTimer (st : Code) : (b.goto st).actTimer = b.actTimer := rfl
@[simp] theorem Block.goto_actTimeout (st : Code) : (b.goto st).actTimeout = b.actTimeout := rfl
@[simp] theorem Block.goto_initialized (st : Code) : (b.goto st).initialized = b.initialized := rfl
@[simp] theorem Block.goto_valid (st : Code) : (b.goto st).valid = b.valid := rfl
@[simp] theorem Block.goto_result (st : Code) : (b.goto st).result = b.result := rfl
@[simp] theorem Block.goto_data0 (st : Code) : (b.goto st).data0 = b.data0 := rfl
@[simp] theorem Block.goto_data1 (st : Code) : (b.goto st).data1 = b.data1 := rfl
@[simp] theorem Block.goto_cfgPin (st : Code) : (b.goto st).cfgPin = b.cfgPin := rfl
@[simp] theorem Block.goto_cfgTimer (st : Code) : (b.goto st).cfgTimer = b.cfgTimer := rfl
@[simp] theorem Block.goto_timeout (st : Code) : (b.goto st).timeout = b.timeout := rfl
@[simp] theorem Block.goto_lineOe (st : Code) : (b.goto st).lineOe = b.lineOe := rfl
@[simp] theorem Block.goto_lineOut (st : Code) : (b.goto st).lineOut = b.lineOut := rfl

/-! ### setResult -/

@[simp] theorem Block.setResult_state (c : Code) : (b.setResult c).state = b.state := rfl
@[simp] theorem Block.setResult_bitidx (c : Code) : (b.setResult c).bitidx = b.bitidx := rfl
@[simp] theorem Block.setResult_polls (c : Code) : (b.setResult c).polls = b.polls := rfl
@[simp] theorem Block.setResult_dly (c : Code) : (b.setResult c).dly = b.dly := rfl
@[simp] theorem Block.setResult_cnt (c : Code) : (b.setResult c).cnt = b.cnt := rfl
@[simp] theorem Block.setResult_run (c : Code) : (b.setResult c).run = b.run := rfl
@[simp] theorem Block.setResult_shift (c : Code) : (b.setResult c).shift = b.shift := rfl
@[simp] theorem Block.setResult_pend (c : Code) : (b.setResult c).pend = b.pend := rfl
@[simp] theorem Block.setResult_actPin (c : Code) : (b.setResult c).actPin = b.actPin := rfl
@[simp] theorem Block.setResult_actTimer (c : Code) : (b.setResult c).actTimer = b.actTimer := rfl
@[simp] theorem Block.setResult_actTimeout (c : Code) : (b.setResult c).actTimeout = b.actTimeout := rfl
@[simp] theorem Block.setResult_initialized (c : Code) : (b.setResult c).initialized = b.initialized := rfl
@[simp] theorem Block.setResult_valid (c : Code) : (b.setResult c).valid = b.valid := rfl
@[simp] theorem Block.setResult_result (c : Code) : (b.setResult c).result = c := rfl
@[simp] theorem Block.setResult_data0 (c : Code) : (b.setResult c).data0 = b.data0 := rfl
@[simp] theorem Block.setResult_data1 (c : Code) : (b.setResult c).data1 = b.data1 := rfl
@[simp] theorem Block.setResult_cfgPin (c : Code) : (b.setResult c).cfgPin = b.cfgPin := rfl
@[simp] theorem Block.setResult_cfgTimer (c : Code) : (b.setResult c).cfgTimer = b.cfgTimer := rfl
@[simp] theorem Block.setResult_timeout (c : Code) : (b.setResult c).timeout = b.timeout := rfl
@[simp] theorem Block.setResult_lineOe (c : Code) : (b.setResult c).lineOe = b.lineOe := rfl
@[simp] theorem Block.setResult_lineOut (c : Code) : (b.setResult c).lineOut = b.lineOut := rfl

/-! ### clearReading -/

@[simp] theorem Block.clearReading_state : (b.clearReading).state = b.state := rfl
@[simp] theorem Block.clearReading_bitidx : (b.clearReading).bitidx = b.bitidx := rfl
@[simp] theorem Block.clearReading_polls : (b.clearReading).polls = b.polls := rfl
@[simp] theorem Block.clearReading_dly : (b.clearReading).dly = b.dly := rfl
@[simp] theorem Block.clearReading_cnt : (b.clearReading).cnt = b.cnt := rfl
@[simp] theorem Block.clearReading_run : (b.clearReading).run = b.run := rfl
@[simp] theorem Block.clearReading_shift : (b.clearReading).shift = b.shift := rfl
@[simp] theorem Block.clearReading_pend : (b.clearReading).pend = b.pend := rfl
@[simp] theorem Block.clearReading_actPin : (b.clearReading).actPin = b.actPin := rfl
@[simp] theorem Block.clearReading_actTimer : (b.clearReading).actTimer = b.actTimer := rfl
@[simp] theorem Block.clearReading_actTimeout : (b.clearReading).actTimeout = b.actTimeout := rfl
@[simp] theorem Block.clearReading_initialized : (b.clearReading).initialized = b.initialized := rfl
@[simp] theorem Block.clearReading_valid : (b.clearReading).valid = false := rfl
@[simp] theorem Block.clearReading_result : (b.clearReading).result = b.result := rfl
@[simp] theorem Block.clearReading_data0 : (b.clearReading).data0 = 0 := rfl
@[simp] theorem Block.clearReading_data1 : (b.clearReading).data1 = 0 := rfl
@[simp] theorem Block.clearReading_cfgPin : (b.clearReading).cfgPin = b.cfgPin := rfl
@[simp] theorem Block.clearReading_cfgTimer : (b.clearReading).cfgTimer = b.cfgTimer := rfl
@[simp] theorem Block.clearReading_timeout : (b.clearReading).timeout = b.timeout := rfl
@[simp] theorem Block.clearReading_lineOe : (b.clearReading).lineOe = b.lineOe := rfl
@[simp] theorem Block.clearReading_lineOut : (b.clearReading).lineOut = b.lineOut := rfl

/-! ### driveIdle -/

@[simp] theorem Block.driveIdle_state : (b.driveIdle).state = b.state := rfl
@[simp] theorem Block.driveIdle_bitidx : (b.driveIdle).bitidx = b.bitidx := rfl
@[simp] theorem Block.driveIdle_polls : (b.driveIdle).polls = b.polls := rfl
@[simp] theorem Block.driveIdle_dly : (b.driveIdle).dly = b.dly := rfl
@[simp] theorem Block.driveIdle_cnt : (b.driveIdle).cnt = b.cnt := rfl
@[simp] theorem Block.driveIdle_run : (b.driveIdle).run = b.run := rfl
@[simp] theorem Block.driveIdle_shift : (b.driveIdle).shift = b.shift := rfl
@[simp] theorem Block.driveIdle_pend : (b.driveIdle).pend = b.pend := rfl
@[simp] theorem Block.driveIdle_actPin : (b.driveIdle).actPin = b.actPin := rfl
@[simp] theorem Block.driveIdle_actTimer : (b.driveIdle).actTimer = b.actTimer := rfl
@[simp] theorem Block.driveIdle_actTimeout : (b.driveIdle).actTimeout = b.actTimeout := rfl
@[simp] theorem Block.driveIdle_initialized : (b.driveIdle).initialized = b.initialized := rfl
@[simp] theorem Block.driveIdle_valid : (b.driveIdle).valid = b.valid := rfl
@[simp] theorem Block.driveIdle_result : (b.driveIdle).result = b.result := rfl
@[simp] theorem Block.driveIdle_data0 : (b.driveIdle).data0 = b.data0 := rfl
@[simp] theorem Block.driveIdle_data1 : (b.driveIdle).data1 = b.data1 := rfl
@[simp] theorem Block.driveIdle_cfgPin : (b.driveIdle).cfgPin = b.cfgPin := rfl
@[simp] theorem Block.driveIdle_cfgTimer : (b.driveIdle).cfgTimer = b.cfgTimer := rfl
@[simp] theorem Block.driveIdle_timeout : (b.driveIdle).timeout = b.timeout := rfl
@[simp] theorem Block.driveIdle_lineOe : (b.driveIdle).lineOe = true := rfl
@[simp] theorem Block.driveIdle_lineOut : (b.driveIdle).lineOut = true := rfl

/-! ### driveLow -/

@[simp] theorem Block.driveLow_state : (b.driveLow).state = b.state := rfl
@[simp] theorem Block.driveLow_bitidx : (b.driveLow).bitidx = b.bitidx := rfl
@[simp] theorem Block.driveLow_polls : (b.driveLow).polls = b.polls := rfl
@[simp] theorem Block.driveLow_dly : (b.driveLow).dly = b.dly := rfl
@[simp] theorem Block.driveLow_cnt : (b.driveLow).cnt = b.cnt := rfl
@[simp] theorem Block.driveLow_run : (b.driveLow).run = b.run := rfl
@[simp] theorem Block.driveLow_shift : (b.driveLow).shift = b.shift := rfl
@[simp] theorem Block.driveLow_pend : (b.driveLow).pend = b.pend := rfl
@[simp] theorem Block.driveLow_actPin : (b.driveLow).actPin = b.actPin := rfl
@[simp] theorem Block.driveLow_actTimer : (b.driveLow).actTimer = b.actTimer := rfl
@[simp] theorem Block.driveLow_actTimeout : (b.driveLow).actTimeout = b.actTimeout := rfl
@[simp] theorem Block.driveLow_initialized : (b.driveLow).initialized = b.initialized := rfl
@[simp] theorem Block.driveLow_valid : (b.driveLow).valid = b.valid := rfl
@[simp] theorem Block.driveLow_result : (b.driveLow).result = b.result := rfl
@[simp] theorem Block.driveLow_data0 : (b.driveLow).data0 = b.data0 := rfl
@[simp] theorem Block.driveLow_data1 : (b.driveLow).data1 = b.data1 := rfl
@[simp] theorem Block.driveLow_cfgPin : (b.driveLow).cfgPin = b.cfgPin := rfl
@[simp] theorem Block.driveLow_cfgTimer : (b.driveLow).cfgTimer = b.cfgTimer := rfl
@[simp] theorem Block.driveLow_timeout : (b.driveLow).timeout = b.timeout := rfl
@[simp] theorem Block.driveLow_lineOe : (b.driveLow).lineOe = true := rfl
@[simp] theorem Block.driveLow_lineOut : (b.driveLow).lineOut = false := rfl

/-! ### releaseLine -/

@[simp] theorem Block.releaseLine_state : (b.releaseLine).state = b.state := rfl
@[simp] theorem Block.releaseLine_bitidx : (b.releaseLine).bitidx = b.bitidx := rfl
@[simp] theorem Block.releaseLine_polls : (b.releaseLine).polls = b.polls := rfl
@[simp] theorem Block.releaseLine_dly : (b.releaseLine).dly = b.dly := rfl
@[simp] theorem Block.releaseLine_cnt : (b.releaseLine).cnt = b.cnt := rfl
@[simp] theorem Block.releaseLine_run : (b.releaseLine).run = b.run := rfl
@[simp] theorem Block.releaseLine_shift : (b.releaseLine).shift = b.shift := rfl
@[simp] theorem Block.releaseLine_pend : (b.releaseLine).pend = b.pend := rfl
@[simp] theorem Block.releaseLine_actPin : (b.releaseLine).actPin = b.actPin := rfl
@[simp] theorem Block.releaseLine_actTimer : (b.releaseLine).actTimer = b.actTimer := rfl
@[simp] theorem Block.releaseLine_actTimeout : (b.releaseLine).actTimeout = b.actTimeout := rfl
@[simp] theorem Block.releaseLine_initialized : (b.releaseLine).initialized = b.initialized := rfl
@[simp] theorem Block.releaseLine_valid : (b.releaseLine).valid = b.valid := rfl
@[simp] theorem Block.releaseLine_result : (b.releaseLine).result = b.result := rfl
@[simp] theorem Block.releaseLine_data0 : (b.releaseLine).data0 = b.data0 := rfl
@[simp] theorem Block.releaseLine_data1 : (b.releaseLine).data1 = b.data1 := rfl
@[simp] theorem Block.releaseLine_cfgPin : (b.releaseLine).cfgPin = b.cfgPin := rfl
@[simp] theorem Block.releaseLine_cfgTimer : (b.releaseLine).cfgTimer = b.cfgTimer := rfl
@[simp] theorem Block.releaseLine_timeout : (b.releaseLine).timeout = b.timeout := rfl
@[simp] theorem Block.releaseLine_lineOe : (b.releaseLine).lineOe = false := rfl
@[simp] theorem Block.releaseLine_lineOut : (b.releaseLine).lineOut = true := rfl

/-! ### startTimer -/

@[simp] theorem Block.startTimer_state : (b.startTimer).state = b.state := rfl
@[simp] theorem Block.startTimer_bitidx : (b.startTimer).bitidx = b.bitidx := rfl
@[simp] theorem Block.startTimer_polls : (b.startTimer).polls = b.polls := rfl
@[simp] theorem Block.startTimer_dly : (b.startTimer).dly = b.dly := rfl
@[simp] theorem Block.startTimer_cnt : (b.startTimer).cnt = b.cnt := rfl
@[simp] theorem Block.startTimer_run : (b.startTimer).run = true := rfl
@[simp] theorem Block.startTimer_shift : (b.startTimer).shift = b.shift := rfl
@[simp] theorem Block.startTimer_pend : (b.startTimer).pend = b.pend := rfl
@[simp] theorem Block.startTimer_actPin : (b.startTimer).actPin = b.actPin := rfl
@[simp] theorem Block.startTimer_actTimer : (b.startTimer).actTimer = b.actTimer := rfl
@[simp] theorem Block.startTimer_actTimeout : (b.startTimer).actTimeout = b.actTimeout := rfl
@[simp] theorem Block.startTimer_initialized : (b.startTimer).initialized = b.initialized := rfl
@[simp] theorem Block.startTimer_valid : (b.startTimer).valid = b.valid := rfl
@[simp] theorem Block.startTimer_result : (b.startTimer).result = b.result := rfl
@[simp] theorem Block.startTimer_data0 : (b.startTimer).data0 = b.data0 := rfl
@[simp] theorem Block.startTimer_data1 : (b.startTimer).data1 = b.data1 := rfl
@[simp] theorem Block.startTimer_cfgPin : (b.startTimer).cfgPin = b.cfgPin := rfl
@[simp] theorem Block.startTimer_cfgTimer : (b.startTimer).cfgTimer = b.cfgTimer := rfl
@[simp] theorem Block.startTimer_timeout : (b.startTimer).timeout = b.timeout := rfl
@[simp] theorem Block.startTimer_lineOe : (b.startTimer).lineOe = b.lineOe := rfl
@[simp] theorem Block.startTimer_lineOut : (b.startTimer).lineOut = b.lineOut := rfl

/-! ### stopTimer -/

@[simp] theorem Block.stopTimer_state : (b.stopTimer).state = b.state := rfl
@[simp] theorem Block.stopTimer_bitidx : (b.stopTimer).bitidx = b.bitidx := rfl
@[simp] theorem Block.stopTimer_polls : (b.stopTimer).polls = b.polls := rfl
@[simp] theorem Block.stopTimer_dly : (b.stopTimer).dly = b.dly := rfl
@[simp] theorem Block.stopTimer_cnt : (b.stopTimer).cnt = b.cnt := rfl
@[simp] theorem Block.stopTimer_run : (b.stopTimer).run = false := rfl
@[simp] theorem Block.stopTimer_shift : (b.stopTimer).shift = b.shift := rfl
@[simp] theorem Block.stopTimer_pend : (b.stopTimer).pend = b.pend := rfl
@[simp] theorem Block.stopTimer_actPin : (b.stopTimer).actPin = b.actPin := rfl
@[simp] theorem Block.stopTimer_actTimer : (b.stopTimer).actTimer = b.actTimer := rfl
@[simp] theorem Block.stopTimer_actTimeout : (b.stopTimer).actTimeout = b.actTimeout := rfl
@[simp] theorem Block.stopTimer_initialized : (b.stopTimer).initialized = b.initialized := rfl
@[simp] theorem Block.stopTimer_valid : (b.stopTimer).valid = b.valid := rfl
@[simp] theorem Block.stopTimer_result : (b.stopTimer).result = b.result := rfl
@[simp] theorem Block.stopTimer_data0 : (b.stopTimer).data0 = b.data0 := rfl
@[simp] theorem Block.stopTimer_data1 : (b.stopTimer).data1 = b.data1 := rfl
@[simp] theorem Block.stopTimer_cfgPin : (b.stopTimer).cfgPin = b.cfgPin := rfl
@[simp] theorem Block.stopTimer_cfgTimer : (b.stopTimer).cfgTimer = b.cfgTimer := rfl
@[simp] theorem Block.stopTimer_timeout : (b.stopTimer).timeout = b.timeout := rfl
@[simp] theorem Block.stopTimer_lineOe : (b.stopTimer).lineOe = b.lineOe := rfl
@[simp] theorem Block.stopTimer_lineOut : (b.stopTimer).lineOut = b.lineOut := rfl

/-! ### resetTimer -/

@[simp] theorem Block.resetTimer_state : (b.resetTimer).state = b.state := rfl
@[simp] theorem Block.resetTimer_bitidx : (b.resetTimer).bitidx = b.bitidx := rfl
@[simp] theorem Block.resetTimer_polls : (b.resetTimer).polls = b.polls := rfl
@[simp] theorem Block.resetTimer_dly : (b.resetTimer).dly = b.dly := rfl
@[simp] theorem Block.resetTimer_cnt : (b.resetTimer).cnt = 0 := rfl
@[simp] theorem Block.resetTimer_run : (b.resetTimer).run = b.run := rfl
@[simp] theorem Block.resetTimer_shift : (b.resetTimer).shift = b.shift := rfl
@[simp] theorem Block.resetTimer_pend : (b.resetTimer).pend = b.pend := rfl
@[simp] theorem Block.resetTimer_actPin : (b.resetTimer).actPin = b.actPin := rfl
@[simp] theorem Block.resetTimer_actTimer : (b.resetTimer).actTimer = b.actTimer := rfl
@[simp] theorem Block.resetTimer_actTimeout : (b.resetTimer).actTimeout = b.actTimeout := rfl
@[simp] theorem Block.resetTimer_initialized : (b.resetTimer).initialized = b.initialized := rfl
@[simp] theorem Block.resetTimer_valid : (b.resetTimer).valid = b.valid := rfl
@[simp] theorem Block.resetTimer_result : (b.resetTimer).result = b.result := rfl
@[simp] theorem Block.resetTimer_data0 : (b.resetTimer).data0 = b.data0 := rfl
@[simp] theorem Block.resetTimer_data1 : (b.resetTimer).data1 = b.data1 := rfl
@[simp] theorem Block.resetTimer_cfgPin : (b.resetTimer).cfgPin = b.cfgPin := rfl
@[simp] theorem Block.resetTimer_cfgTimer : (b.resetTimer).cfgTimer = b.cfgTimer := rfl
@[simp] theorem Block.resetTimer_timeout : (b.resetTimer).timeout = b.timeout := rfl
@[simp] theorem Block.resetTimer_lineOe : (b.resetTimer).lineOe = b.lineOe := rfl
@[simp] theorem Block.resetTimer_lineOut : (b.resetTimer).lineOut = b.lineOut := rfl

/-! ### loadPolls -/

@[simp] theorem Block.loadPolls_state (n : Word) : (b.loadPolls n).state = b.state := rfl
@[simp] theorem Block.loadPolls_bitidx (n : Word) : (b.loadPolls n).bitidx = b.bitidx := rfl
@[simp] theorem Block.loadPolls_polls (n : Word) : (b.loadPolls n).polls = n := rfl
@[simp] theorem Block.loadPolls_dly (n : Word) : (b.loadPolls n).dly = b.dly := rfl
@[simp] theorem Block.loadPolls_cnt (n : Word) : (b.loadPolls n).cnt = b.cnt := rfl
@[simp] theorem Block.loadPolls_run (n : Word) : (b.loadPolls n).run = b.run := rfl
@[simp] theorem Block.loadPolls_shift (n : Word) : (b.loadPolls n).shift = b.shift := rfl
@[simp] theorem Block.loadPolls_pend (n : Word) : (b.loadPolls n).pend = b.pend := rfl
@[simp] theorem Block.loadPolls_actPin (n : Word) : (b.loadPolls n).actPin = b.actPin := rfl
@[simp] theorem Block.loadPolls_actTimer (n : Word) : (b.loadPolls n).actTimer = b.actTimer := rfl
@[simp] theorem Block.loadPolls_actTimeout (n : Word) : (b.loadPolls n).actTimeout = b.actTimeout := rfl
@[simp] theorem Block.loadPolls_initialized (n : Word) : (b.loadPolls n).initialized = b.initialized := rfl
@[simp] theorem Block.loadPolls_valid (n : Word) : (b.loadPolls n).valid = b.valid := rfl
@[simp] theorem Block.loadPolls_result (n : Word) : (b.loadPolls n).result = b.result := rfl
@[simp] theorem Block.loadPolls_data0 (n : Word) : (b.loadPolls n).data0 = b.data0 := rfl
@[simp] theorem Block.loadPolls_data1 (n : Word) : (b.loadPolls n).data1 = b.data1 := rfl
@[simp] theorem Block.loadPolls_cfgPin (n : Word) : (b.loadPolls n).cfgPin = b.cfgPin := rfl
@[simp] theorem Block.loadPolls_cfgTimer (n : Word) : (b.loadPolls n).cfgTimer = b.cfgTimer := rfl
@[simp] theorem Block.loadPolls_timeout (n : Word) : (b.loadPolls n).timeout = b.timeout := rfl
@[simp] theorem Block.loadPolls_lineOe (n : Word) : (b.loadPolls n).lineOe = b.lineOe := rfl
@[simp] theorem Block.loadPolls_lineOut (n : Word) : (b.loadPolls n).lineOut = b.lineOut := rfl

/-! ### spendPoll -/

@[simp] theorem Block.spendPoll_state : (b.spendPoll).state = b.state := rfl
@[simp] theorem Block.spendPoll_bitidx : (b.spendPoll).bitidx = b.bitidx := rfl
@[simp] theorem Block.spendPoll_polls : (b.spendPoll).polls = b.polls - 1 := rfl
@[simp] theorem Block.spendPoll_dly : (b.spendPoll).dly = b.dly := rfl
@[simp] theorem Block.spendPoll_cnt : (b.spendPoll).cnt = b.cnt := rfl
@[simp] theorem Block.spendPoll_run : (b.spendPoll).run = b.run := rfl
@[simp] theorem Block.spendPoll_shift : (b.spendPoll).shift = b.shift := rfl
@[simp] theorem Block.spendPoll_pend : (b.spendPoll).pend = b.pend := rfl
@[simp] theorem Block.spendPoll_actPin : (b.spendPoll).actPin = b.actPin := rfl
@[simp] theorem Block.spendPoll_actTimer : (b.spendPoll).actTimer = b.actTimer := rfl
@[simp] theorem Block.spendPoll_actTimeout : (b.spendPoll).actTimeout = b.actTimeout := rfl
@[simp] theorem Block.spendPoll_initialized : (b.spendPoll).initialized = b.initialized := rfl
@[simp] theorem Block.spendPoll_valid : (b.spendPoll).valid = b.valid := rfl
@[simp] theorem Block.spendPoll_result : (b.spendPoll).result = b.result := rfl
@[simp] theorem Block.spendPoll_data0 : (b.spendPoll).data0 = b.data0 := rfl
@[simp] theorem Block.spendPoll_data1 : (b.spendPoll).data1 = b.data1 := rfl
@[simp] theorem Block.spendPoll_cfgPin : (b.spendPoll).cfgPin = b.cfgPin := rfl
@[simp] theorem Block.spendPoll_cfgTimer : (b.spendPoll).cfgTimer = b.cfgTimer := rfl
@[simp] theorem Block.spendPoll_timeout : (b.spendPoll).timeout = b.timeout := rfl
@[simp] theorem Block.spendPoll_lineOe : (b.spendPoll).lineOe = b.lineOe := rfl
@[simp] theorem Block.spendPoll_lineOut : (b.spendPoll).lineOut = b.lineOut := rfl

/-! ### fail -/

@[simp] theorem Block.fail_state (code : Code) : (b.fail code).state = St.error := rfl
@[simp] theorem Block.fail_bitidx (code : Code) : (b.fail code).bitidx = b.bitidx := rfl
@[simp] theorem Block.fail_polls (code : Code) : (b.fail code).polls = b.polls := rfl
@[simp] theorem Block.fail_dly (code : Code) : (b.fail code).dly = b.dly := rfl
@[simp] theorem Block.fail_cnt (code : Code) : (b.fail code).cnt = b.cnt := rfl
@[simp] theorem Block.fail_run (code : Code) : (b.fail code).run = b.run := rfl
@[simp] theorem Block.fail_shift (code : Code) : (b.fail code).shift = b.shift := rfl
@[simp] theorem Block.fail_pend (code : Code) : (b.fail code).pend = code := rfl
@[simp] theorem Block.fail_actPin (code : Code) : (b.fail code).actPin = b.actPin := rfl
@[simp] theorem Block.fail_actTimer (code : Code) : (b.fail code).actTimer = b.actTimer := rfl
@[simp] theorem Block.fail_actTimeout (code : Code) : (b.fail code).actTimeout = b.actTimeout := rfl
@[simp] theorem Block.fail_initialized (code : Code) : (b.fail code).initialized = b.initialized := rfl
@[simp] theorem Block.fail_valid (code : Code) : (b.fail code).valid = b.valid := rfl
@[simp] theorem Block.fail_result (code : Code) : (b.fail code).result = b.result := rfl
@[simp] theorem Block.fail_data0 (code : Code) : (b.fail code).data0 = b.data0 := rfl
@[simp] theorem Block.fail_data1 (code : Code) : (b.fail code).data1 = b.data1 := rfl
@[simp] theorem Block.fail_cfgPin (code : Code) : (b.fail code).cfgPin = b.cfgPin := rfl
@[simp] theorem Block.fail_cfgTimer (code : Code) : (b.fail code).cfgTimer = b.cfgTimer := rfl
@[simp] theorem Block.fail_timeout (code : Code) : (b.fail code).timeout = b.timeout := rfl
@[simp] theorem Block.fail_lineOe (code : Code) : (b.fail code).lineOe = b.lineOe := rfl
@[simp] theorem Block.fail_lineOut (code : Code) : (b.fail code).lineOut = b.lineOut := rfl

/-! ### endError -/

@[simp] theorem Block.endError_state : (b.endError).state = St.idle := rfl
@[simp] theorem Block.endError_bitidx : (b.endError).bitidx = b.bitidx := rfl
@[simp] theorem Block.endError_polls : (b.endError).polls = b.polls := rfl
@[simp] theorem Block.endError_dly : (b.endError).dly = b.dly := rfl
@[simp] theorem Block.endError_cnt : (b.endError).cnt = b.cnt := rfl
@[simp] theorem Block.endError_run : (b.endError).run = false := rfl
@[simp] theorem Block.endError_shift : (b.endError).shift = 0 := rfl
@[simp] theorem Block.endError_pend : (b.endError).pend = Res.none := rfl
@[simp] theorem Block.endError_actPin : (b.endError).actPin = b.actPin := rfl
@[simp] theorem Block.endError_actTimer : (b.endError).actTimer = b.actTimer := rfl
@[simp] theorem Block.endError_actTimeout : (b.endError).actTimeout = b.actTimeout := rfl
@[simp] theorem Block.endError_initialized : (b.endError).initialized = b.initialized := rfl
@[simp] theorem Block.endError_valid : (b.endError).valid = b.valid := rfl
@[simp] theorem Block.endError_result : (b.endError).result = b.pend := rfl
@[simp] theorem Block.endError_data0 : (b.endError).data0 = b.data0 := rfl
@[simp] theorem Block.endError_data1 : (b.endError).data1 = b.data1 := rfl
@[simp] theorem Block.endError_cfgPin : (b.endError).cfgPin = b.cfgPin := rfl
@[simp] theorem Block.endError_cfgTimer : (b.endError).cfgTimer = b.cfgTimer := rfl
@[simp] theorem Block.endError_timeout : (b.endError).timeout = b.timeout := rfl
@[simp] theorem Block.endError_lineOe : (b.endError).lineOe = true := rfl
@[simp] theorem Block.endError_lineOut : (b.endError).lineOut = true := rfl

/-! ### storeConfig -/

@[simp] theorem Block.storeConfig_state (data : Word) : (b.storeConfig data).state = b.state := rfl
@[simp] theorem Block.storeConfig_bitidx (data : Word) : (b.storeConfig data).bitidx = b.bitidx := rfl
@[simp] theorem Block.storeConfig_polls (data : Word) : (b.storeConfig data).polls = b.polls := rfl
@[simp] theorem Block.storeConfig_dly (data : Word) : (b.storeConfig data).dly = b.dly := rfl
@[simp] theorem Block.storeConfig_cnt (data : Word) : (b.storeConfig data).cnt = b.cnt := rfl
@[simp] theorem Block.storeConfig_run (data : Word) : (b.storeConfig data).run = b.run := rfl
@[simp] theorem Block.storeConfig_shift (data : Word) : (b.storeConfig data).shift = b.shift := rfl
@[simp] theorem Block.storeConfig_pend (data : Word) : (b.storeConfig data).pend = b.pend := rfl
@[simp] theorem Block.storeConfig_actPin (data : Word) : (b.storeConfig data).actPin = b.actPin := rfl
@[simp] theorem Block.storeConfig_actTimer (data : Word) : (b.storeConfig data).actTimer = b.actTimer := rfl
@[simp] theorem Block.storeConfig_actTimeout (data : Word) : (b.storeConfig data).actTimeout = b.actTimeout := rfl
@[simp] theorem Block.storeConfig_initialized (data : Word) : (b.storeConfig data).initialized = b.initialized := rfl
@[simp] theorem Block.storeConfig_valid (data : Word) : (b.storeConfig data).valid = b.valid := rfl
@[simp] theorem Block.storeConfig_result (data : Word) : (b.storeConfig data).result = b.result := rfl
@[simp] theorem Block.storeConfig_data0 (data : Word) : (b.storeConfig data).data0 = b.data0 := rfl
@[simp] theorem Block.storeConfig_data1 (data : Word) : (b.storeConfig data).data1 = b.data1 := rfl
@[simp] theorem Block.storeConfig_cfgPin (data : Word) : (b.storeConfig data).cfgPin = pinField data := rfl
@[simp] theorem Block.storeConfig_cfgTimer (data : Word) : (b.storeConfig data).cfgTimer = timerField data := rfl
@[simp] theorem Block.storeConfig_timeout (data : Word) : (b.storeConfig data).timeout = b.timeout := rfl
@[simp] theorem Block.storeConfig_lineOe (data : Word) : (b.storeConfig data).lineOe = b.lineOe := rfl
@[simp] theorem Block.storeConfig_lineOut (data : Word) : (b.storeConfig data).lineOut = b.lineOut := rfl

/-! ### storeTimeout -/

@[simp] theorem Block.storeTimeout_state (data : Word) : (b.storeTimeout data).state = b.state := rfl
@[simp] theorem Block.storeTimeout_bitidx (data : Word) : (b.storeTimeout data).bitidx = b.bitidx := rfl
@[simp] theorem Block.storeTimeout_polls (data : Word) : (b.storeTimeout data).polls = b.polls := rfl
@[simp] theorem Block.storeTimeout_dly (data : Word) : (b.storeTimeout data).dly = b.dly := rfl
@[simp] theorem Block.storeTimeout_cnt (data : Word) : (b.storeTimeout data).cnt = b.cnt := rfl
@[simp] theorem Block.storeTimeout_run (data : Word) : (b.storeTimeout data).run = b.run := rfl
@[simp] theorem Block.storeTimeout_shift (data : Word) : (b.storeTimeout data).shift = b.shift := rfl
@[simp] theorem Block.storeTimeout_pend (data : Word) : (b.storeTimeout data).pend = b.pend := rfl
@[simp] theorem Block.storeTimeout_actPin (data : Word) : (b.storeTimeout data).actPin = b.actPin := rfl
@[simp] theorem Block.storeTimeout_actTimer (data : Word) : (b.storeTimeout data).actTimer = b.actTimer := rfl
@[simp] theorem Block.storeTimeout_actTimeout (data : Word) : (b.storeTimeout data).actTimeout = b.actTimeout := rfl
@[simp] theorem Block.storeTimeout_initialized (data : Word) : (b.storeTimeout data).initialized = b.initialized := rfl
@[simp] theorem Block.storeTimeout_valid (data : Word) : (b.storeTimeout data).valid = b.valid := rfl
@[simp] theorem Block.storeTimeout_result (data : Word) : (b.storeTimeout data).result = b.result := rfl
@[simp] theorem Block.storeTimeout_data0 (data : Word) : (b.storeTimeout data).data0 = b.data0 := rfl
@[simp] theorem Block.storeTimeout_data1 (data : Word) : (b.storeTimeout data).data1 = b.data1 := rfl
@[simp] theorem Block.storeTimeout_cfgPin (data : Word) : (b.storeTimeout data).cfgPin = b.cfgPin := rfl
@[simp] theorem Block.storeTimeout_cfgTimer (data : Word) : (b.storeTimeout data).cfgTimer = b.cfgTimer := rfl
@[simp] theorem Block.storeTimeout_timeout (data : Word) : (b.storeTimeout data).timeout = data := rfl
@[simp] theorem Block.storeTimeout_lineOe (data : Word) : (b.storeTimeout data).lineOe = b.lineOe := rfl
@[simp] theorem Block.storeTimeout_lineOut (data : Word) : (b.storeTimeout data).lineOut = b.lineOut := rfl

/-! ### configError -/

@[simp] theorem Block.configError_state (code : Code) : (b.configError code).state = b.state := rfl
@[simp] theorem Block.configError_bitidx (code : Code) : (b.configError code).bitidx = b.bitidx := rfl
@[simp] theorem Block.configError_polls (code : Code) : (b.configError code).polls = b.polls := rfl
@[simp] theorem Block.configError_dly (code : Code) : (b.configError code).dly = b.dly := rfl
@[simp] theorem Block.configError_cnt (code : Code) : (b.configError code).cnt = b.cnt := rfl
@[simp] theorem Block.configError_run (code : Code) : (b.configError code).run = b.run := rfl
@[simp] theorem Block.configError_shift (code : Code) : (b.configError code).shift = b.shift := rfl
@[simp] theorem Block.configError_pend (code : Code) : (b.configError code).pend = b.pend := rfl
@[simp] theorem Block.configError_actPin (code : Code) : (b.configError code).actPin = b.actPin := rfl
@[simp] theorem Block.configError_actTimer (code : Code) : (b.configError code).actTimer = b.actTimer := rfl
@[simp] theorem Block.configError_actTimeout (code : Code) : (b.configError code).actTimeout = b.actTimeout := rfl
@[simp] theorem Block.configError_initialized (code : Code) : (b.configError code).initialized = false := rfl
@[simp] theorem Block.configError_valid (code : Code) : (b.configError code).valid = b.valid := rfl
@[simp] theorem Block.configError_result (code : Code) : (b.configError code).result = code := rfl
@[simp] theorem Block.configError_data0 (code : Code) : (b.configError code).data0 = b.data0 := rfl
@[simp] theorem Block.configError_data1 (code : Code) : (b.configError code).data1 = b.data1 := rfl
@[simp] theorem Block.configError_cfgPin (code : Code) : (b.configError code).cfgPin = b.cfgPin := rfl
@[simp] theorem Block.configError_cfgTimer (code : Code) : (b.configError code).cfgTimer = b.cfgTimer := rfl
@[simp] theorem Block.configError_timeout (code : Code) : (b.configError code).timeout = b.timeout := rfl
@[simp] theorem Block.configError_lineOe (code : Code) : (b.configError code).lineOe = b.lineOe := rfl
@[simp] theorem Block.configError_lineOut (code : Code) : (b.configError code).lineOut = b.lineOut := rfl

/-! ### configure -/

@[simp] theorem Block.configure_state : (b.configure).state = b.state := rfl
@[simp] theorem Block.configure_bitidx : (b.configure).bitidx = b.bitidx := rfl
@[simp] theorem Block.configure_polls : (b.configure).polls = b.polls := rfl
@[simp] theorem Block.configure_dly : (b.configure).dly = b.dly := rfl
@[simp] theorem Block.configure_cnt : (b.configure).cnt = 0 := rfl
@[simp] theorem Block.configure_run : (b.configure).run = false := rfl
@[simp] theorem Block.configure_shift : (b.configure).shift = b.shift := rfl
@[simp] theorem Block.configure_pend : (b.configure).pend = b.pend := rfl
@[simp] theorem Block.configure_actPin : (b.configure).actPin = b.cfgPin := rfl
@[simp] theorem Block.configure_actTimer : (b.configure).actTimer = b.cfgTimer := rfl
@[simp] theorem Block.configure_actTimeout : (b.configure).actTimeout = b.timeout := rfl
@[simp] theorem Block.configure_initialized : (b.configure).initialized = true := rfl
@[simp] theorem Block.configure_valid : (b.configure).valid = b.valid := rfl
@[simp] theorem Block.configure_result : (b.configure).result = Res.ok := rfl
@[simp] theorem Block.configure_data0 : (b.configure).data0 = b.data0 := rfl
@[simp] theorem Block.configure_data1 : (b.configure).data1 = b.data1 := rfl
@[simp] theorem Block.configure_cfgPin : (b.configure).cfgPin = b.cfgPin := rfl
@[simp] theorem Block.configure_cfgTimer : (b.configure).cfgTimer = b.cfgTimer := rfl
@[simp] theorem Block.configure_timeout : (b.configure).timeout = b.timeout := rfl
@[simp] theorem Block.configure_lineOe : (b.configure).lineOe = true := rfl
@[simp] theorem Block.configure_lineOut : (b.configure).lineOut = true := rfl

/-! ### beginStart -/

@[simp] theorem Block.beginStart_state : (b.beginStart).state = St.start := rfl
@[simp] theorem Block.beginStart_bitidx : (b.beginStart).bitidx = 0 := rfl
@[simp] theorem Block.beginStart_polls : (b.beginStart).polls = 0 := rfl
@[simp] theorem Block.beginStart_dly : (b.beginStart).dly = 0 := rfl
@[simp] theorem Block.beginStart_cnt : (b.beginStart).cnt = b.cnt := rfl
@[simp] theorem Block.beginStart_run : (b.beginStart).run = false := rfl
@[simp] theorem Block.beginStart_shift : (b.beginStart).shift = 0 := rfl
@[simp] theorem Block.beginStart_pend : (b.beginStart).pend = Res.none := rfl
@[simp] theorem Block.beginStart_actPin : (b.beginStart).actPin = b.actPin := rfl
@[simp] theorem Block.beginStart_actTimer : (b.beginStart).actTimer = b.actTimer := rfl
@[simp] theorem Block.beginStart_actTimeout : (b.beginStart).actTimeout = b.actTimeout := rfl
@[simp] theorem Block.beginStart_initialized : (b.beginStart).initialized = b.initialized := rfl
@[simp] theorem Block.beginStart_valid : (b.beginStart).valid = b.valid := rfl
@[simp] theorem Block.beginStart_result : (b.beginStart).result = Res.none := rfl
@[simp] theorem Block.beginStart_data0 : (b.beginStart).data0 = b.data0 := rfl
@[simp] theorem Block.beginStart_data1 : (b.beginStart).data1 = b.data1 := rfl
@[simp] theorem Block.beginStart_cfgPin : (b.beginStart).cfgPin = b.cfgPin := rfl
@[simp] theorem Block.beginStart_cfgTimer : (b.beginStart).cfgTimer = b.cfgTimer := rfl
@[simp] theorem Block.beginStart_timeout : (b.beginStart).timeout = b.timeout := rfl
@[simp] theorem Block.beginStart_lineOe : (b.beginStart).lineOe = true := rfl
@[simp] theorem Block.beginStart_lineOut : (b.beginStart).lineOut = false := rfl

/-! ### takeBit -/

@[simp] theorem Block.takeBit_state (p : Params) : (b.takeBit p).state = b.state := rfl
@[simp] theorem Block.takeBit_bitidx (p : Params) : (b.takeBit p).bitidx = b.bitidx + 1 := rfl
@[simp] theorem Block.takeBit_polls (p : Params) : (b.takeBit p).polls = b.polls := rfl
@[simp] theorem Block.takeBit_dly (p : Params) : (b.takeBit p).dly = b.dly := rfl
@[simp] theorem Block.takeBit_cnt (p : Params) : (b.takeBit p).cnt = b.cnt := rfl
@[simp] theorem Block.takeBit_run (p : Params) : (b.takeBit p).run = false := rfl
@[simp] theorem Block.takeBit_shift (p : Params) : (b.takeBit p).shift = pack b.shift b.bitidx (classify p.threshold b.cnt) := rfl
@[simp] theorem Block.takeBit_pend (p : Params) : (b.takeBit p).pend = b.pend := rfl
@[simp] theorem Block.takeBit_actPin (p : Params) : (b.takeBit p).actPin = b.actPin := rfl
@[simp] theorem Block.takeBit_actTimer (p : Params) : (b.takeBit p).actTimer = b.actTimer := rfl
@[simp] theorem Block.takeBit_actTimeout (p : Params) : (b.takeBit p).actTimeout = b.actTimeout := rfl
@[simp] theorem Block.takeBit_initialized (p : Params) : (b.takeBit p).initialized = b.initialized := rfl
@[simp] theorem Block.takeBit_valid (p : Params) : (b.takeBit p).valid = b.valid := rfl
@[simp] theorem Block.takeBit_result (p : Params) : (b.takeBit p).result = b.result := rfl
@[simp] theorem Block.takeBit_data0 (p : Params) : (b.takeBit p).data0 = b.data0 := rfl
@[simp] theorem Block.takeBit_data1 (p : Params) : (b.takeBit p).data1 = b.data1 := rfl
@[simp] theorem Block.takeBit_cfgPin (p : Params) : (b.takeBit p).cfgPin = b.cfgPin := rfl
@[simp] theorem Block.takeBit_cfgTimer (p : Params) : (b.takeBit p).cfgTimer = b.cfgTimer := rfl
@[simp] theorem Block.takeBit_timeout (p : Params) : (b.takeBit p).timeout = b.timeout := rfl
@[simp] theorem Block.takeBit_lineOe (p : Params) : (b.takeBit p).lineOe = b.lineOe := rfl
@[simp] theorem Block.takeBit_lineOut (p : Params) : (b.takeBit p).lineOut = b.lineOut := rfl

/-! ### doneRule -/

@[simp] theorem Block.doneRule_state : (b.doneRule).state = St.idle := rfl
@[simp] theorem Block.doneRule_bitidx : (b.doneRule).bitidx = b.bitidx := rfl
@[simp] theorem Block.doneRule_polls : (b.doneRule).polls = b.polls := rfl
@[simp] theorem Block.doneRule_dly : (b.doneRule).dly = b.dly := rfl
@[simp] theorem Block.doneRule_cnt : (b.doneRule).cnt = b.cnt := rfl
@[simp] theorem Block.doneRule_run : (b.doneRule).run = b.run := rfl
@[simp] theorem Block.doneRule_shift : (b.doneRule).shift = b.shift := rfl
@[simp] theorem Block.doneRule_pend : (b.doneRule).pend = b.pend := rfl
@[simp] theorem Block.doneRule_actPin : (b.doneRule).actPin = b.actPin := rfl
@[simp] theorem Block.doneRule_actTimer : (b.doneRule).actTimer = b.actTimer := rfl
@[simp] theorem Block.doneRule_actTimeout : (b.doneRule).actTimeout = b.actTimeout := rfl
@[simp] theorem Block.doneRule_initialized : (b.doneRule).initialized = b.initialized := rfl
@[simp] theorem Block.doneRule_valid : (b.doneRule).valid = true := rfl
@[simp] theorem Block.doneRule_result : (b.doneRule).result = Res.ok := rfl
@[simp] theorem Block.doneRule_data0 : (b.doneRule).data0 = readingLow b.shift := rfl
@[simp] theorem Block.doneRule_data1 : (b.doneRule).data1 = readingHigh b.shift := rfl
@[simp] theorem Block.doneRule_cfgPin : (b.doneRule).cfgPin = b.cfgPin := rfl
@[simp] theorem Block.doneRule_cfgTimer : (b.doneRule).cfgTimer = b.cfgTimer := rfl
@[simp] theorem Block.doneRule_timeout : (b.doneRule).timeout = b.timeout := rfl
@[simp] theorem Block.doneRule_lineOe : (b.doneRule).lineOe = true := rfl
@[simp] theorem Block.doneRule_lineOut : (b.doneRule).lineOut = true := rfl

/-! ### setBlk -/

@[simp] theorem State.setBlk_blk (c : Block) : (s.setBlk c).blk = c := rfl
@[simp] theorem State.setBlk_agenda (c : Block) : (s.setBlk c).agenda = s.agenda := rfl
@[simp] theorem State.setBlk_line (c : Block) : (s.setBlk c).line = s.line := rfl
@[simp] theorem State.setBlk_draws (c : Block) : (s.setBlk c).draws = s.draws := rfl
@[simp] theorem State.setBlk_history (c : Block) : (s.setBlk c).history = s.history := rfl

/-! ### record -/

@[simp] theorem State.record_blk (o : Obs) : (s.record o).blk = s.blk := rfl
@[simp] theorem State.record_agenda (o : Obs) : (s.record o).agenda = s.agenda := rfl
@[simp] theorem State.record_line (o : Obs) : (s.record o).line = s.line := rfl
@[simp] theorem State.record_draws (o : Obs) : (s.record o).draws = s.draws := rfl
@[simp] theorem State.record_history (o : Obs) : (s.record o).history = o :: s.history := rfl

/-! ### sampled -/

@[simp] theorem State.sampled_blk : (s.sampled).blk = s.blk := rfl
@[simp] theorem State.sampled_agenda : (s.sampled).agenda = s.agenda := rfl
@[simp] theorem State.sampled_line : (s.sampled).line = s.line.tail := rfl
@[simp] theorem State.sampled_draws : (s.sampled).draws = s.draws + 1 := rfl
@[simp] theorem State.sampled_history : (s.sampled).history = .sample s.blk.state s.sampleLevel :: s.history := rfl

/-! ### takeInput -/

@[simp] theorem State.takeInput_blk : (s.takeInput).blk = s.blk := rfl
@[simp] theorem State.takeInput_agenda : (s.takeInput).agenda = s.agenda.tail := rfl
@[simp] theorem State.takeInput_line : (s.takeInput).line = s.line := rfl
@[simp] theorem State.takeInput_draws : (s.takeInput).draws = s.draws + 1 := rfl
@[simp] theorem State.takeInput_history : (s.takeInput).history = s.history := rfl

/-! ### feed -/

@[simp] theorem State.feed_blk (x : Input) (v : Bool) : (s.feed x v).blk = s.blk := rfl
@[simp] theorem State.feed_agenda (x : Input) (v : Bool) : (s.feed x v).agenda = [x] := rfl
@[simp] theorem State.feed_line (x : Input) (v : Bool) : (s.feed x v).line = [v] := rfl
@[simp] theorem State.feed_draws (x : Input) (v : Bool) : (s.feed x v).draws = s.draws := rfl
@[simp] theorem State.feed_history (x : Input) (v : Bool) : (s.feed x v).history = s.history := rfl

/-! ### the input and the sample supplied by `feed` -/

@[simp] theorem State.feed_nextInput (x : Input) (v : Bool) : (s.feed x v).nextInput = x := rfl

@[simp] theorem State.feed_sampleLevel (x : Input) (v : Bool) : (s.feed x v).takeInput.sampleLevel = v := rfl

end Sys2Proof.Machine
end

