-- ==== Sys2Proof/Laws/Ops.lean ====
section
/-! SUPPORT. One lemma per shared operation, saying everything it can do; provers cite these instead of
unfolding. -/

namespace Sys2Proof.Machine

/-! ### The outcomes of the shared step forms -/

theorem State.reply_next {s t : State} {off : Offset} {value : Word} :
    s.reply off value = .next t ↔ t = s.record (.busRead off value) := by
  constructor
  · intro h; cases h; rfl
  · rintro rfl; rfl

theorem State.blockStep_next {s t : State} {rule : Block → Block} :
    s.blockStep rule = .next t ↔ t = s.setBlk (rule s.blk) := by
  constructor
  · intro h; cases h; rfl
  · rintro rfl; rfl

theorem State.sampleStep_next {s t : State} {rule : Bool → Block → Block} :
    s.sampleStep rule = .next t ↔ t = s.sampled.setBlk (rule s.sampleLevel s.blk) := by
  constructor
  · intro h; cases h; rfl
  · rintro rfl; rfl

theorem State.badAccess_refuses (s : State) (we : Bool) (off : Offset) :
    s.badAccess we off = .refused (.misalignedAccess we off) := rfl

/-! ### The bounded wait -/

/-- A missed poll spends one poll and fails with RD_TIMEOUT when none is left; nothing else. -/
theorem Block.missedPoll_cases (b : Block) :
    (b.polls - 1 = 0 ∧ b.missedPoll = b.spendPoll.fail Res.rdTimeout) ∨
    (b.polls - 1 ≠ 0 ∧ b.missedPoll = b.spendPoll) := by
  by_cases h : b.polls - 1 = 0
  · exact .inl ⟨h, if_pos h⟩
  · exact .inr ⟨h, if_neg h⟩

theorem sub_one_eq_zero {w : Word} : w - 1 = 0 ↔ w = 1 := by
  constructor
  · intro h
    have := congrArg (· + 1) h
    simpa using this
  · rintro rfl; rfl

/-- The last poll of a budget fails with RD_TIMEOUT. -/
theorem Block.missedPoll_last {b : Block} (h : b.polls = 1) :
    b.missedPoll = { b with polls := 0, pend := Res.rdTimeout, state := St.error } := by
  rcases b.missedPoll_cases with ⟨-, e⟩ | ⟨h1, -⟩
  · rw [e]; simp [Block.fail, Block.spendPoll, h]
  · exact absurd (sub_one_eq_zero.2 h) h1

/-- Any other poll spends one. -/
theorem Block.missedPoll_more {b : Block} (h : b.polls ≠ 1) : b.missedPoll = { b with polls := b.polls - 1 } := by
  rcases b.missedPoll_cases with ⟨h1, -⟩ | ⟨-, e⟩
  · exact absurd (sub_one_eq_zero.1 h1) h
  · rw [e]; rfl

/-- BIT_LOW's bounded wait, on its last poll. -/
theorem Block.missedFall_last {b : Block} (h : b.polls = 1) :
    b.missedFall = { b with polls := 0, run := false, pend := Res.rdTimeout, state := St.error } := by
  unfold Block.missedFall
  rw [if_pos (by simp [h])]
  simp [Block.fail, Block.stopTimer, Block.spendPoll, h]

theorem Block.missedFall_more {b : Block} (h : b.polls ≠ 1) : b.missedFall = { b with polls := b.polls - 1 } := by
  have h2 : b.spendPoll.polls ≠ 0 := fun h3 => h (sub_one_eq_zero.1 h3)
  unfold Block.missedFall
  rw [if_neg h2]; rfl

/-- The bounded wait passes on the awaited level and misses a poll on the other. -/
theorem Block.await_cases (level : Bool) (next : Code) (entry : Block → Block) (v : Bool) (b : Block) :
    (v = level ∧ Block.await level next entry v b = (entry b).goto next) ∨
    (v = !level ∧ Block.await level next entry v b = b.missedPoll) := by
  cases v <;> cases level <;> simp [Block.await]

@[simp] theorem Block.loadBitWait_hw (b : Block) : b.loadBitWait Config.hw = b := rfl

theorem Block.loadBitWait_some {p : Params} {l : Word} (h : p.bitWaitLimit = some l) (b : Block) :
    b.loadBitWait p = b.loadPolls l := by simp [Block.loadBitWait, h]

/-! ### BUSY and the commands -/

theorem Block.busy_iff (b : Block) : b.busy = true ↔ b.state ≠ St.idle := by
  simp [Block.busy]

theorem Block.not_busy_iff (b : Block) : b.busy = false ↔ b.state = St.idle := by
  simp [Block.busy]

theorem Block.command_busy {b : Block} (h : b.busy = true) (rule : Block → Block) : b.command rule = b :=
  if_pos h

theorem Block.command_idle {b : Block} (h : b.busy = false) (rule : Block → Block) :
    b.command rule = rule b := by simp [Block.command, h]

@[simp] theorem Block.command_id (b : Block) : b.command id = b := by simp [Block.command]

/-- INIT reports the first fault of the configuration, or latches it. -/
theorem Block.validateAndConfigure_cases (p : Params) (b : Block) :
    (p.validPin b.cfgPin = false ∧ b.validateAndConfigure p = b.configError Res.cfgInvalidPort) ∨
    (p.validPin b.cfgPin = true ∧ p.validTimer b.cfgTimer = false ∧
      b.validateAndConfigure p = b.configError Res.cfgInvalidTimer) ∨
    (p.validPin b.cfgPin = true ∧ p.validTimer b.cfgTimer = true ∧ b.timeout = 0 ∧
      b.validateAndConfigure p = b.configError Res.cfgZeroTimeout) ∨
    (p.validPin b.cfgPin = true ∧ p.validTimer b.cfgTimer = true ∧ b.timeout ≠ 0 ∧
      b.validateAndConfigure p = b.configure) := by
  unfold Block.validateAndConfigure
  cases hp : p.validPin b.cfgPin
  · exact .inl ⟨rfl, by simp⟩
  cases ht : p.validTimer b.cfgTimer
  · exact .inr (.inl ⟨rfl, rfl, by simp⟩)
  by_cases h0 : b.timeout = 0
  · exact .inr (.inr (.inl ⟨rfl, rfl, h0, if_pos h0⟩))
  · exact .inr (.inr (.inr ⟨rfl, rfl, h0, if_neg h0⟩))

/-- READ is refused or accepted by INITIALIZED. -/
theorem Block.startRead_cases (b : Block) :
    (b.initialized = false ∧ b.startRead = b.clearReading.setResult Res.rdNotInit) ∨
    (b.initialized = true ∧ b.startRead = b.clearReading.beginStart) := by
  cases h : b.initialized <;> simp [Block.startRead, h]

/-- Everything an INIT can do. -/
theorem Block.initCommand_cases (p : Params) (b : Block) :
    b.command (Block.initialize p) = b ∨
    (∃ c, (c = Res.cfgInvalidPort ∨ c = Res.cfgInvalidTimer ∨ c = Res.cfgZeroTimeout) ∧
      b.command (Block.initialize p) = b.clearReading.configError c) ∨
    (b.timeout ≠ 0 ∧ b.command (Block.initialize p) = b.clearReading.configure) := by
  cases h : b.busy
  · rw [Block.command_idle h, Block.initialize]
    rcases Block.validateAndConfigure_cases p b.clearReading with
      ⟨-, e⟩ | ⟨-, -, e⟩ | ⟨-, -, -, e⟩ | ⟨-, -, h0, e⟩ <;> rw [e]
    · exact .inr (.inl ⟨_, .inl rfl, rfl⟩)
    · exact .inr (.inl ⟨_, .inr (.inl rfl), rfl⟩)
    · exact .inr (.inl ⟨_, .inr (.inr rfl), rfl⟩)
    · exact .inr (.inr ⟨h0, rfl⟩)
  · exact .inl (Block.command_busy h _)

/-- Everything a READ can do. -/
theorem Block.readCommand_cases (b : Block) :
    b.command Block.startRead = b ∨
    (b.state = St.idle ∧ b.initialized = false ∧
      b.command Block.startRead = b.clearReading.setResult Res.rdNotInit) ∨
    (b.state = St.idle ∧ b.initialized = true ∧ b.command Block.startRead = b.clearReading.beginStart) := by
  cases h : b.busy
  · have hs := b.not_busy_iff.1 h
    rw [Block.command_idle h]
    rcases b.startRead_cases with ⟨h1, e⟩ | ⟨h1, e⟩
    · exact .inr (.inl ⟨hs, h1, e⟩)
    · exact .inr (.inr ⟨hs, h1, e⟩)
  · exact .inl (Block.command_busy h _)

/-! ### The ENGINE rules of this hardware -/

theorem Block.startRule_cases (b : Block) :
    (b.dly = startLowTicks ∧ b.startRule = (b.releaseLine.loadPolls b.actTimeout).goto St.ackA) ∨
    (b.dly ≠ startLowTicks ∧ b.startRule = b) := by
  by_cases h : b.dly = startLowTicks
  · exact .inl ⟨h, if_pos h⟩
  · exact .inr ⟨h, if_neg h⟩

theorem Block.bitHighRule_hw (v : Bool) (b : Block) :
    Block.bitHighRule Config.hw v b = if v then b.startTimer.goto St.bitLow else b := by
  cases v <;> rfl

theorem Block.bitLowRule_hw (v : Bool) (b : Block) :
    Block.bitLowRule Config.hw v b = if v then b else (b.takeBit Config.hw).nextBit Config.hw := by
  cases v <;> rfl

theorem Block.nextBit_cases (b : Block) :
    (b.bitidx = nbits ∧ b.nextBit Config.hw = b.goto St.check) ∨
    (b.bitidx ≠ nbits ∧ b.nextBit Config.hw = b.resetTimer.goto St.bitHigh) := by
  by_cases h : b.bitidx = nbits
  · exact .inl ⟨h, if_pos h⟩
  · exact .inr ⟨h, if_neg h⟩

theorem Block.checkRule_cases (b : Block) :
    (checksumOk b.shift = true ∧ b.checkRule = b.goto St.done) ∨
    (checksumOk b.shift = false ∧ b.checkRule = b.fail Res.rdChecksum) := by
  cases h : checksumOk b.shift <;> simp [Block.checkRule, h]

/-- A tick changes CNT and DLY alone. -/
theorem Block.tickRule_eq (b : Block) :
    b.tickRule =
      { b with cnt := if b.run then b.cnt + 1 else b.cnt,
               dly := if b.state = St.start ∧ b.dly.toNat < startLowTicks.toNat then b.dly + 1 else b.dly } := by
  unfold Block.tickRule Block.tickDelay Block.tickTimer
  cases h : b.run <;> simp <;> split <;> simp [← h]

/-- A tick in IDLE with the timer stopped changes nothing (10_state.md R42). -/
theorem Block.tickRule_idle {b : Block} (hs : b.state = St.idle) (hr : b.run = false) : b.tickRule = b := by
  have hd : ¬ (b.state = St.start ∧ b.dly.toNat < startLowTicks.toNat) := by simp [hs]
  rw [Block.tickRule_eq, if_neg hd, if_neg (by simp [hr])]

/-! ### Error entry and return -/

theorem Block.fail_busy (b : Block) (code : Code) : (b.fail code).busy = true := rfl

theorem Block.endError_idle (b : Block) : b.endError.busy = false := rfl

end Sys2Proof.Machine
end

