-- ==== Sys2Proof/Laws/Bits.lean ====
section
/-! SUPPORT. The bits of concatenated bytes, of the data registers after DONE, and of a packed buffer. -/

namespace Sys2Proof.Machine

theorem append4_getLsbD (a b c d : Byte) (i : Nat) :
    BitVec.getLsbD (w := 8 + 8 + 8 + 8) (a ++ b ++ c ++ d) i =
      if i < 8 then d.getLsbD i else if i < 16 then c.getLsbD (i - 8)
      else if i < 24 then b.getLsbD (i - 16) else a.getLsbD (i - 24) := by
  simp only [BitVec.getLsbD_append]
  split_ifs <;> first | rfl | omega

theorem append5_getLsbD (a b c d e : Byte) (i : Nat) :
    BitVec.getLsbD (w := 8 + 8 + 8 + 8 + 8) (a ++ b ++ c ++ d ++ e) i =
      if i < 8 then e.getLsbD i else if i < 16 then d.getLsbD (i - 8)
      else if i < 24 then c.getLsbD (i - 16) else if i < 32 then b.getLsbD (i - 24)
      else a.getLsbD (i - 32) := by
  simp only [BitVec.getLsbD_append]
  split_ifs <;> first | rfl | omega

/-- DATA0's bits come from bytes 0 to 3 of the buffer, byte 0 lowest (43_checksum_and_completion.md R183). -/
theorem readingLow_getLsbD (v : Buffer) (i : Nat) :
    (readingLow v).getLsbD i =
      if i < 8 then v.getLsbD (32 + i) else if i < 16 then v.getLsbD (24 + (i - 8))
      else if i < 24 then v.getLsbD (16 + (i - 16)) else decide (i - 24 < 8) && v.getLsbD (8 + (i - 24)) := by
  refine (append4_getLsbD _ _ _ _ i).trans ?_
  simp only [byteK, BitVec.getLsbD_extractLsb']
  split_ifs <;> simp <;> omega

/-- The reading that DONE publishes is the buffer (20_memory.md R66). -/
theorem Block.reading_doneRule (b : Block) : b.doneRule.reading = b.shift := by
  apply BitVec.eq_of_getLsbD_eq
  intro i hi
  refine (append5_getLsbD _ _ _ _ _ i).trans ?_
  simp only [byteLane, BitVec.getLsbD_extractLsb', Block.doneRule_data0, Block.doneRule_data1,
    readingLow_getLsbD, readingHigh, BitVec.getLsbD_setWidth, byteK]
  interval_cases i <;> simp

/-- DATA1 is a byte under zeros (10_state.md R34). -/
theorem readingHigh_lt (v : Buffer) : (readingHigh v).toNat < 256 := by
  have := (byteK 4 v).isLt
  simp [readingHigh]
  omega

theorem bitMask_getLsbD (n j : Nat) (h : j < 40) : (bitMask n).getLsbD j = decide (j = n) := by
  unfold bitMask
  rw [BitVec.getLsbD_shiftLeft]
  rcases Nat.lt_trichotomy j n with hl | he | hg
  · simp [hl, Nat.ne_of_lt hl]
  · subst he; simp [h]
  · have : j - n ≠ 0 := by omega
    simp [Nat.not_lt.2 (Nat.le_of_lt hg), Nat.ne_of_gt hg, BitVec.getLsbD_one, this]

theorem pack_inside {v : Buffer} {i : BitVec 6} {b : Bool} (h : i.toNat ≤ 39) :
    pack v i b = packAt v i.toNat b := if_pos h

end Sys2Proof.Machine
end

