-- ==== Sys2Proof/Laws/Decode.lean ====
section
/-! SUPPORT. The fields of a host operation word, and what a successful decoding says. -/

namespace Sys2Proof

open Machine

/-- The bits of a host operation word (30_encoding.md R80). -/
theorem howWord_getLsbD (we : Bool) (off : Offset) (data : Word) (i : Nat) :
    (howWord we off data).getLsbD i =
      if i < 32 then data.getLsbD i
      else if i - 32 < 5 then off.getLsbD (i - 32)
      else if i - 37 < 1 then we && decide (i = 37) else false := by
  have h1 := BitVec.getLsbD_append (x := 0#2 ++ BitVec.ofBool we ++ off) (y := data) (i := i)
  have h2 := BitVec.getLsbD_append (x := 0#2 ++ BitVec.ofBool we) (y := off) (i := i - 32)
  have h3 := BitVec.getLsbD_append (x := 0#2) (y := BitVec.ofBool we) (i := i - 32 - 5)
  refine h1.trans ?_
  rw [h2, h3]
  by_cases a : i < 32
  · simp [a]
  by_cases b : i - 32 < 5
  · simp [a, b]
  by_cases c : i - 37 < 1
  · have e : i = 37 := by omega
    subst e
    cases we <;> simp
  · have d : ¬ i - 32 - 5 < 1 := by omega
    simp [a, b, c, d]

@[simp] theorem howOff_howWord (we : Bool) (off : Offset) (data : Word) :
    howOff (howWord we off data) = off := by
  apply BitVec.eq_of_getLsbD_eq
  intro i hi
  rw [howOff, BitVec.getLsbD_extractLsb', howWord_getLsbD]
  simp [hi]

@[simp] theorem howData_howWord (we : Bool) (off : Offset) (data : Word) :
    howData (howWord we off data) = data := by
  apply BitVec.eq_of_getLsbD_eq
  intro i hi
  rw [howData, BitVec.getLsbD_extractLsb', howWord_getLsbD]
  simp [hi]

@[simp] theorem howWe_howWord (we : Bool) (off : Offset) (data : Word) :
    howWe (howWord we off data) = we := by
  rw [howWe, howWord_getLsbD]
  simp

@[simp] theorem howTop_howWord (we : Bool) (off : Offset) (data : Word) :
    howTop (howWord we off data) = 0 := by
  apply BitVec.eq_of_getLsbD_eq
  intro i hi
  rw [howTop, BitVec.getLsbD_extractLsb', howWord_getLsbD]
  interval_cases i <;> simp

/-- A host operation word decodes by its fields. -/
@[simp] theorem decode_howWord (we : Bool) (off : Offset) (data : Word) :
    decode (.hostop (howWord we off data)) = .ok (decodeFields we off data) := by
  simp [decode, decodeHow]

/-- The ENGINE step that a STATE code selects has that code as its encoding. -/
theorem decodeState_ok {c : Code} {i : Instr} (h : decodeState c = .ok i) :
    encode i = .engineState c := by
  unfold decodeState at h
  split_ifs at h with h0 h1 h2 h3 h4 h5 h6 h7 h8 h9 <;> cases h <;> simp [encode, *]

/-- The encoding is a host operation word. -/
def IsHostOp (i : Instr) : Prop := ∃ w, encode i = .hostop w

theorem decodeRead_host (off : Offset) : IsHostOp (decodeRead off) := by
  unfold decodeRead
  split_ifs <;> exact ⟨_, rfl⟩

theorem decodeCommand_host (data : Word) : IsHostOp (decodeCommand data) := by
  unfold decodeCommand
  split_ifs <;> exact ⟨_, rfl⟩

theorem decodeWrite_host (off : Offset) (data : Word) : IsHostOp (decodeWrite off data) := by
  have h := decodeCommand_host data
  unfold decodeWrite
  generalize decodeCommand data = i at h
  split_ifs <;> first | exact h | exact ⟨_, rfl⟩

theorem decodeFields_host (we : Bool) (off : Offset) (data : Word) : IsHostOp (decodeFields we off data) := by
  have hr := decodeRead_host off
  have hw := decodeWrite_host off data
  unfold decodeFields
  generalize decodeRead off = i at hr
  generalize decodeWrite off data = j at hw
  split_ifs <;> first | exact hr | exact hw | exact ⟨_, rfl⟩

/-- A host operation word decodes to a host operation. -/
theorem decode_hostop_encode {w : HowWord} {i : Instr} (h : decode (.hostop w) = .ok i) : IsHostOp i := by
  have hf := decodeFields_host (howWe w) (howOff w) (howData w)
  simp only [decode, decodeHow] at h
  split at h
  · cases h; exact hf
  · cases h

end Sys2Proof
end

