-- ==== Sys2Proof/Laws/PerInstr.lean ====
section
/-! SUPPORT. One family of per-instruction lemmas: what the encoding of each instruction is. -/

namespace Sys2Proof.Laws

/-- The encoding of a host operation is a word under two zero bits and the operation has a row of format HOSTOP;
the encoding of an ENGINE step is the STATE code that selects it (30_encoding.md R80, R85, R86). -/
def EncodedWord.Statement (i : Instr) : Prop :=
  (∀ w, encode i = .hostop w → howTop w = 0 ∧ i.row.isSome = true) ∧
  (∀ c, encode i = .engineState c → decodeState c = .ok i ∧ i.row = none)

theorem EncodedWord.rdCtrl : EncodedWord.Statement .rdCtrl :=
  ⟨fun w h => (by cases h; exact ⟨howTop_howWord _ _ _, rfl⟩), fun c h => (by cases h)⟩

theorem EncodedWord.rdStatus : EncodedWord.Statement .rdStatus :=
  ⟨fun w h => (by cases h; exact ⟨howTop_howWord _ _ _, rfl⟩), fun c h => (by cases h)⟩

theorem EncodedWord.rdConfig : EncodedWord.Statement .rdConfig :=
  ⟨fun w h => (by cases h; exact ⟨howTop_howWord _ _ _, rfl⟩), fun c h => (by cases h)⟩

theorem EncodedWord.rdTimeout : EncodedWord.Statement .rdTimeout :=
  ⟨fun w h => (by cases h; exact ⟨howTop_howWord _ _ _, rfl⟩), fun c h => (by cases h)⟩

theorem EncodedWord.rdData0 : EncodedWord.Statement .rdData0 :=
  ⟨fun w h => (by cases h; exact ⟨howTop_howWord _ _ _, rfl⟩), fun c h => (by cases h)⟩

theorem EncodedWord.rdData1 : EncodedWord.Statement .rdData1 :=
  ⟨fun w h => (by cases h; exact ⟨howTop_howWord _ _ _, rfl⟩), fun c h => (by cases h)⟩

theorem EncodedWord.rdRsvd (off : Offset) : EncodedWord.Statement (.rdRsvd off) :=
  ⟨fun w h => (by cases h; exact ⟨howTop_howWord _ _ _, rfl⟩), fun c h => (by cases h)⟩

theorem EncodedWord.wrNop : EncodedWord.Statement .wrNop :=
  ⟨fun w h => (by cases h; exact ⟨howTop_howWord _ _ _, rfl⟩), fun c h => (by cases h)⟩

theorem EncodedWord.wrInit : EncodedWord.Statement .wrInit :=
  ⟨fun w h => (by cases h; exact ⟨howTop_howWord _ _ _, rfl⟩), fun c h => (by cases h)⟩

theorem EncodedWord.wrRead : EncodedWord.Statement .wrRead :=
  ⟨fun w h => (by cases h; exact ⟨howTop_howWord _ _ _, rfl⟩), fun c h => (by cases h)⟩

theorem EncodedWord.wrCmdRsvd : EncodedWord.Statement .wrCmdRsvd :=
  ⟨fun w h => (by cases h; exact ⟨howTop_howWord _ _ _, rfl⟩), fun c h => (by cases h)⟩

theorem EncodedWord.wrStatus (data : Word) : EncodedWord.Statement (.wrStatus data) :=
  ⟨fun w h => (by cases h; exact ⟨howTop_howWord _ _ _, rfl⟩), fun c h => (by cases h)⟩

theorem EncodedWord.wrConfig (data : Word) : EncodedWord.Statement (.wrConfig data) :=
  ⟨fun w h => (by cases h; exact ⟨howTop_howWord _ _ _, rfl⟩), fun c h => (by cases h)⟩

theorem EncodedWord.wrTimeout (data : Word) : EncodedWord.Statement (.wrTimeout data) :=
  ⟨fun w h => (by cases h; exact ⟨howTop_howWord _ _ _, rfl⟩), fun c h => (by cases h)⟩

theorem EncodedWord.wrData0 (data : Word) : EncodedWord.Statement (.wrData0 data) :=
  ⟨fun w h => (by cases h; exact ⟨howTop_howWord _ _ _, rfl⟩), fun c h => (by cases h)⟩

theorem EncodedWord.wrData1 (data : Word) : EncodedWord.Statement (.wrData1 data) :=
  ⟨fun w h => (by cases h; exact ⟨howTop_howWord _ _ _, rfl⟩), fun c h => (by cases h)⟩

theorem EncodedWord.wrRsvd (off : Offset) (data : Word) : EncodedWord.Statement (.wrRsvd off data) :=
  ⟨fun w h => (by cases h; exact ⟨howTop_howWord _ _ _, rfl⟩), fun c h => (by cases h)⟩

theorem EncodedWord.misaligned01 (we : Bool) (off : Offset) (data : Word) : EncodedWord.Statement (.misaligned01 we off data) :=
  ⟨fun w h => (by cases h; exact ⟨howTop_howWord _ _ _, rfl⟩), fun c h => (by cases h)⟩

theorem EncodedWord.misaligned10 (we : Bool) (off : Offset) (data : Word) : EncodedWord.Statement (.misaligned10 we off data) :=
  ⟨fun w h => (by cases h; exact ⟨howTop_howWord _ _ _, rfl⟩), fun c h => (by cases h)⟩

theorem EncodedWord.misaligned11 (we : Bool) (off : Offset) (data : Word) : EncodedWord.Statement (.misaligned11 we off data) :=
  ⟨fun w h => (by cases h; exact ⟨howTop_howWord _ _ _, rfl⟩), fun c h => (by cases h)⟩

theorem EncodedWord.stepIdle : EncodedWord.Statement .stepIdle :=
  ⟨fun w h => (by cases h), fun c h => (by cases h; exact ⟨rfl, rfl⟩)⟩

theorem EncodedWord.stepStart : EncodedWord.Statement .stepStart :=
  ⟨fun w h => (by cases h), fun c h => (by cases h; exact ⟨rfl, rfl⟩)⟩

theorem EncodedWord.stepAckA : EncodedWord.Statement .stepAckA :=
  ⟨fun w h => (by cases h), fun c h => (by cases h; exact ⟨rfl, rfl⟩)⟩

theorem EncodedWord.stepAckB : EncodedWord.Statement .stepAckB :=
  ⟨fun w h => (by cases h), fun c h => (by cases h; exact ⟨rfl, rfl⟩)⟩

theorem EncodedWord.stepAckC : EncodedWord.Statement .stepAckC :=
  ⟨fun w h => (by cases h), fun c h => (by cases h; exact ⟨rfl, rfl⟩)⟩

theorem EncodedWord.stepBitHigh : EncodedWord.Statement .stepBitHigh :=
  ⟨fun w h => (by cases h), fun c h => (by cases h; exact ⟨rfl, rfl⟩)⟩

theorem EncodedWord.stepBitLow : EncodedWord.Statement .stepBitLow :=
  ⟨fun w h => (by cases h), fun c h => (by cases h; exact ⟨rfl, rfl⟩)⟩

theorem EncodedWord.stepCheck : EncodedWord.Statement .stepCheck :=
  ⟨fun w h => (by cases h), fun c h => (by cases h; exact ⟨rfl, rfl⟩)⟩

theorem EncodedWord.stepDone : EncodedWord.Statement .stepDone :=
  ⟨fun w h => (by cases h), fun c h => (by cases h; exact ⟨rfl, rfl⟩)⟩

theorem EncodedWord.stepError : EncodedWord.Statement .stepError :=
  ⟨fun w h => (by cases h), fun c h => (by cases h; exact ⟨rfl, rfl⟩)⟩

theorem EncodedWord.tick : EncodedWord.Statement .tick :=
  ⟨fun w h => (by cases h), fun c h => (by cases h)⟩

theorem EncodedWord.reset : EncodedWord.Statement .reset :=
  ⟨fun w h => (by cases h), fun c h => (by cases h)⟩

end Sys2Proof.Laws
end

