-- ==== Sys2Proof/Laws/Step.lean ====
section
/-! SUPPORT. What an instruction does when it completes, and what a step does: the inversion lemmas from which
frames and invariants follow. -/

namespace Sys2Proof.Machine

/-- The effect of each instruction on the block, given the sample an ENGINE step would draw. -/
def blockEffect (i : Instr) (v : Bool) (b : Block) : Block :=
  match i with
  | .rdCtrl | .rdStatus | .rdConfig | .rdTimeout | .rdData0 | .rdData1 | .rdRsvd _ => b
  | .wrNop | .wrCmdRsvd | .wrStatus _ | .wrData0 _ | .wrData1 _ | .wrRsvd _ _ => b
  | .misaligned01 _ _ _ | .misaligned10 _ _ _ | .misaligned11 _ _ _ | .stepIdle => b
  | .wrInit => b.command (Block.initialize Config.hw)
  | .wrRead => b.command Block.startRead
  | .wrConfig data => b.storeConfig data
  | .wrTimeout data => b.storeTimeout data
  | .stepStart => b.startRule
  | .stepAckA => b.ackARule v
  | .stepAckB => b.ackBRule v
  | .stepAckC => Block.ackCRule Config.hw v b
  | .stepBitHigh => Block.bitHighRule Config.hw v b
  | .stepBitLow => Block.bitLowRule Config.hw v b
  | .stepCheck => b.checkRule
  | .stepDone => b.doneRule
  | .stepError => b.endError
  | .tick => b.tickRule
  | .reset => Block.reset

/-- An instruction that completes has its effect on the block and leaves the pending inputs alone. -/
theorem exec_next {i : Instr} {s t : State} (h : exec i s = .next t) :
    t.blk = blockEffect i s.sampleLevel s.blk ∧ t.agenda = s.agenda := by
  cases i
  case stepError =>
    simp only [exec, execStepError] at h
    split at h
    · cases h
    · rw [State.blockStep_next] at h; subst h; exact ⟨rfl, rfl⟩
  case wrNop | wrCmdRsvd =>
    cases h; simp [blockEffect, State.setBlk]
  all_goals first
    | (cases h; exact ⟨rfl, rfl⟩)
    | cases h

/-- A step that completes is the execution of the instruction its word decodes to. -/
theorem step_next {s t : State} (h : step s = .next t) :
    ∃ raw i, fetchWord s.nextInput s.blk = .ok raw ∧ decode raw = .ok i ∧ exec i s.takeInput = .next t := by
  unfold step at h
  split at h
  · cases h
  · rename_i raw hraw
    split at h
    · rename_i i hi; exact ⟨raw, i, hraw, hi, h⟩
    · rename_i e _; cases e <;> cases h

/-- An ENGINE turn supplied by the environment runs the rule its STATE selects. -/
theorem step_feed_engine {s : State} {i : Instr} (h : decode (.engineState s.blk.state) = .ok i) (v : Bool) :
    step (s.feed .engine v) = exec i (s.feed .engine v).takeInput := by
  have e : fetchWord (s.feed .engine v).nextInput (s.feed .engine v).blk = .ok (.engineState s.blk.state) := rfl
  unfold step
  simp only [e, h]

/-- An ENGINE turn that completes has the effect of the rule its STATE selects, on the sample supplied. -/
theorem step_feed_engine_next {s t : State} {v : Bool} (h : step (s.feed .engine v) = .next t) :
    ∃ i, decode (.engineState s.blk.state) = .ok i ∧ t.blk = blockEffect i v s.blk := by
  obtain ⟨raw, i, h1, h2, h3⟩ := step_next h
  cases h1
  exact ⟨i, h2, (exec_next h3).1⟩

/-- A bus access fetches a host operation word or nothing. -/
theorem busWord_ok {a : BusAccess} {raw : RawWord} (h : busWord a = .ok raw) : ∃ w, raw = .hostop w := by
  unfold busWord at h
  split at h
  · split at h
    · cases h; exact ⟨_, rfl⟩
    · cases h
  · cases h

/-- An ENGINE turn fetches the STATE register. -/
theorem fetchWord_engine (b : Block) : fetchWord .engine b = .ok (.engineState b.state) := rfl

/-- Only an ENGINE turn fetches a STATE code, and it is STATE. -/
theorem fetchWord_engineState {x : Input} {b : Block} {c : Code} (h : fetchWord x b = .ok (.engineState c)) :
    x = .engine ∧ c = b.state := by
  cases x with
  | engine => cases h; exact ⟨rfl, rfl⟩
  | tick => cases h
  | host w => cases h
  | bus a => obtain ⟨w, hw⟩ := busWord_ok h; cases hw
  | reset => cases h

/-- An ENGINE rule runs only on an ENGINE turn, in the state that selects it. -/
theorem fetched_engine {x : Input} {b : Block} {raw : RawWord} {i : Instr} {c : Code}
    (hf : fetchWord x b = .ok raw) (hd : decode raw = .ok i) (hc : encode i = .engineState c) :
    x = .engine ∧ c = b.state := by
  cases raw with
  | engineState d =>
    have he := decodeState_ok hd
    rw [hc] at he
    cases he
    exact fetchWord_engineState hf
  | event e => cases e <;> cases hd <;> cases hc
  | hostop w =>
    obtain ⟨w', hw⟩ := decode_hostop_encode hd
    rw [hc] at hw
    cases hw

end Sys2Proof.Machine
end

