-- ==== Sys2Proof/Laws/Runs.lean ====
section
/-! SUPPORT. What one step of a transaction can do, whoever takes it, and the counts of steps. -/

namespace Sys2Proof.Machine

/-- The block without the staging registers, which the host may write at any time (10_state.md R31, R32). -/
def Block.unstaged (b : Block) : Block := { b with cfgPin := 0, cfgTimer := 0, timeout := 0 }

/-- An element that is no staging register is the same in blocks that differ in those alone. -/
theorem Block.of_unstaged {α : Type} (f : Block → α) (hf : ∀ b : Block, f b.unstaged = f b) {a b : Block}
    (h : a.unstaged = b.unstaged) : f a = f b := by rw [← hf a, h, hf b]

/-- A host operation on a busy block changes the staging registers at most. -/
theorem hostOp_busy {i : Instr} (hi : IsHostOp i) {b : Block} (hb : b.busy = true) (v : Bool) :
    (blockEffect i v b).unstaged = b.unstaged := by
  obtain ⟨w, hw⟩ := hi
  cases i <;> try (cases hw; done)
  all_goals simp only [blockEffect, Block.command_busy hb]
  all_goals rfl

theorem fetched_tick {x : Input} {b : Block} (hf : fetchWord x b = .ok (.event .tick)) : x = .tick := by
  cases x with
  | tick => rfl
  | bus a => obtain ⟨w, hw⟩ := busWord_ok hf; cases hw
  | engine => cases hf
  | host w => cases hf
  | reset => cases hf

theorem fetched_reset {x : Input} {b : Block} (hf : fetchWord x b = .ok (.event .reset)) : x = .reset := by
  cases x with
  | reset => rfl
  | bus a => obtain ⟨w, hw⟩ := busWord_ok hf; cases hw
  | engine => cases hf
  | host w => cases hf
  | tick => cases hf

/-- A step of a transaction that is no RESET: the ENGINE rule of its STATE, a TICK, or a host operation that
touches the staging registers at most. -/
theorem step_feed_busy {s t : State} {x : Input} {v : Bool} (h : step (s.feed x v) = .next t) (hx : x ≠ .reset)
    (hb : s.blk.state ≠ St.idle) :
    (x = .engine ∧ ∃ i, decode (.engineState s.blk.state) = .ok i ∧ t.blk = blockEffect i v s.blk) ∨
    (x = .tick ∧ t.blk = s.blk.tickRule) ∨
    (x ≠ .engine ∧ x ≠ .tick ∧ t.blk.unstaged = s.blk.unstaged) := by
  obtain ⟨raw, i, h1, h2, h3⟩ := step_next h
  have h1 : fetchWord x s.blk = .ok raw := h1
  have hblk : t.blk = blockEffect i v s.blk := (exec_next h3).1
  cases raw with
  | engineState c =>
    obtain ⟨rfl, rfl⟩ := fetchWord_engineState h1
    exact .inl ⟨rfl, i, h2, hblk⟩
  | event e =>
    cases e with
    | tick => cases h2; exact .inr (.inl ⟨fetched_tick h1, hblk⟩)
    | reset => exact absurd (fetched_reset h1) hx
  | hostop w =>
    refine .inr (.inr ⟨?_, ?_, ?_⟩)
    · rintro rfl; cases h1
    · rintro rfl; cases h1
    · rw [hblk]; exact hostOp_busy (decode_hostop_encode h2) (s.blk.busy_iff.2 hb) v

/-- A step of a quiescent run: an ENGINE step or a TICK, which changes no element and shows nothing, or RESET. -/
theorem step_feed_quiescent {s t : State} {x : Input} {v : Bool} (h : step (s.feed x v) = .next t)
    (hx : x.isHost = false) (hs : s.blk.state = St.idle) (hr : s.blk.run = false) :
    ((x = .engine ∨ x = .tick) ∧ t.blk = s.blk ∧ t.history = s.history) ∨ (x = .reset ∧ t.blk = Block.reset) := by
  cases x with
  | engine =>
    rw [step_feed_engine (i := .stepIdle) (by rw [hs]; rfl)] at h
    cases h
    exact .inl ⟨.inl rfl, rfl, rfl⟩
  | tick =>
    cases h
    exact .inl ⟨.inr rfl, Block.tickRule_idle hs hr, rfl⟩
  | reset => cases h; exact .inr ⟨rfl, rfl⟩
  | host w => cases hx
  | bus a => cases hx

theorem inputCount_same {x : Input} {xs : Nat → Input} {k : Nat} (h : xs k = x) :
    inputCount x xs (k + 1) = inputCount x xs k + 1 := by simp [inputCount, h]

theorem inputCount_other {x : Input} {xs : Nat → Input} {k : Nat} (h : xs k ≠ x) :
    inputCount x xs (k + 1) = inputCount x xs k := by simp [inputCount, h]

theorem inputCount_mono (x : Input) (xs : Nat → Input) (a d : Nat) :
    inputCount x xs a ≤ inputCount x xs (a + d) := by
  induction d with
  | zero => exact Nat.le_refl _
  | succ d ih => exact Nat.le_trans ih (Nat.le_add_right _ _)

end Sys2Proof.Machine
end

