-- ==== Sys2Proof/Tests/Slice0.lean ====
section
/-! SUPPORT. Tests of the model, with the expected values of 95_test_vectors.md (the section stands beside each
group) or of the rule named, and one witness for every statement that has hypotheses. -/

namespace Sys2Proof.Tests

open Sys2Proof Sys2Proof.Machine

/-! ### Helpers -/

/-- The reference instantiation of 00_scope.md R7. -/
def refParams : Params :=
  { threshold := 40, validPin := fun p => decide (p.toNat ≤ 15),
    validTimer := fun t => decide (1 ≤ t.toNat) && decide (t.toNat ≤ 4), bitWaitLimit := none }

/-- The reference block with a bounded bit wait (42_bit_acquisition.md R167). -/
def boundedParams (l : Word) : Params := { refParams with bitWaitLimit := some l }

/-- A machine with this block, these pending inputs and these pending answers. -/
def machine (b : Block) (agenda : List Input) (line : List Bool) : State :=
  { State.reset with blk := b, agenda := agenda, line := line }

/-- IDLE after a successful INIT with PIN_ID 5, TIMER_ID 2 and a budget of `n`. -/
def idleB (n : Word) : Block :=
  { Block.reset with
    actPin := 5, actTimer := 2, actTimeout := n, initialized := true, result := 1, cfgPin := 5, cfgTimer := 2,
    timeout := n, lineOe := true, lineOut := true }

/-- START with `d` ticks elapsed. -/
def startB (n : Word) (d : BitVec 16) : Block :=
  { idleB n with result := 0, lineOut := false, state := 1, dly := d }

/-- A handshake phase with `p` polls left. -/
def ackB (n : Word) (st : Code) (p : Word) : Block :=
  { startB n 20000 with state := st, lineOe := false, lineOut := true, polls := p }

/-- BIT_HIGH at bit `i`. -/
def bitHighB (i : BitVec 6) : Block := { ackB 100 5 99 with bitidx := i }

/-- BIT_LOW at bit `i` with `c` ticks counted. -/
def bitLowB (i : BitVec 6) (v : Buffer) (c : Word) : Block :=
  { bitHighB i with state := 6, run := true, shift := v, cnt := c }

/-- CHECK or DONE with the buffer `v`. -/
def endB (st : Code) (v : Buffer) : Block := { bitHighB 40 with state := st, shift := v }

/-- ERROR after a handshake timeout. -/
def timeoutB : Block := { ackB 100 9 0 with pend := 5 }

/-- IDLE after the successful transaction of program P1. -/
def afterP1 : Block := (endB 8 0x370018004F).doneRule

/-- One element of the block after an instruction that completes. -/
def after {α : Type} (f : Block → α) (o : Host.Outcome State Fault Refusal) : Option α :=
  match o with
  | .next t => some (f t.blk)
  | .fault _ => none
  | .refused _ => none

/-- What an instruction that completes has shown last. -/
def shown (o : Host.Outcome State Fault Refusal) : Option Obs :=
  match o with
  | .next t => t.history.head?
  | .fault _ => none
  | .refused _ => none

/-- An instruction on a block, with `true` as LINE's next answer. -/
def run1 (i : Instr) (b : Block) : Host.Outcome State Fault Refusal := exec i (machine b [] [true])

/-- An instruction on a block, with `false` as LINE's next answer. -/
def run0 (i : Instr) (b : Block) : Host.Outcome State Fault Refusal := exec i (machine b [] [false])

/-! ### WellFormed refuses ill-formed terms -/

theorem test_wf_refuses_rdRsvd : (Instr.rdRsvd 0x14).wf = false := by decide
theorem test_wf_refuses_wrRsvd : (Instr.wrRsvd 0x19 7).wf = false := by decide
theorem test_wf_refuses_misaligned01 : (Instr.misaligned01 true 0x0E 0).wf = false := by decide
theorem test_wf_refuses_misaligned10 : (Instr.misaligned10 false 0x04 0).wf = false := by decide
theorem test_wf_refuses_misaligned11 : (Instr.misaligned11 false 0x1D 0).wf = false := by decide

/-! ### Decoding: 95_test_vectors.md section 2.1, 30_encoding.md R80 to R86 -/

theorem test_decode_reads :
    decodeTableWord 40 0x0000000000 = some .rdCtrl ∧ decodeTableWord 40 0x0400000000 = some .rdStatus ∧
    decodeTableWord 40 0x0800000000 = some .rdConfig ∧ decodeTableWord 40 0x0C00000000 = some .rdTimeout ∧
    decodeTableWord 40 0x1000000000 = some .rdData0 ∧ decodeTableWord 40 0x1400000000 = some .rdData1 ∧
    decodeTableWord 40 0x1800000000 = some (.rdRsvd 0x18) ∧
    decodeTableWord 40 0x1C00000000 = some (.rdRsvd 0x1C) := by decide

theorem test_decode_commands :
    decodeTableWord 40 0x2000000000 = some .wrNop ∧ decodeTableWord 40 0x2000000001 = some .wrInit ∧
    decodeTableWord 40 0x2000000002 = some .wrRead ∧ decodeTableWord 40 0x2000000003 = some .wrCmdRsvd ∧
    decodeTableWord 40 0x20FFFFFFFE = some .wrRead := by decide

theorem test_decode_writes :
    decodeTableWord 40 0x2400000001 = some (.wrStatus 1) ∧
    decodeTableWord 40 0x2800000205 = some (.wrConfig 0x205) ∧
    decodeTableWord 40 0x2C00000064 = some (.wrTimeout 100) ∧
    decodeTableWord 40 0x3012345678 = some (.wrData0 0x12345678) ∧
    decodeTableWord 40 0x3400000000 = some (.wrData1 0) ∧
    decodeTableWord 40 0x3C00000000 = some (.wrRsvd 0x1C 0) := by decide

theorem test_decode_misaligned :
    decodeTableWord 40 0x0600000000 = some (.misaligned10 false 0x06 0) ∧
    decodeTableWord 40 0x2D00000000 = some (.misaligned01 true 0x0D 0) ∧
    decodeTableWord 40 0x3F00000001 = some (.misaligned11 true 0x1F 1) := by decide

/-- A bit above the 38 makes no host operation word (R80). -/
theorem test_decode_rejects_top_bits :
    decodeTableWord 40 0x4000000000 = none ∧ decodeTableWord 40 0x8000000000 = none ∧
    decode (.hostop 0x8400000000) = .error (.notAHostOperation 0x8400000000) := ⟨by decide, by decide, rfl⟩

theorem test_decode_state_codes :
    (List.range 10).map (decodeTableWord 8) =
      [some .stepIdle, some .stepStart, some .stepAckA, some .stepAckB, some .stepAckC, some .stepBitHigh,
       some .stepBitLow, some .stepCheck, some .stepDone, some .stepError] := by decide

theorem test_decode_rejects_reserved_states :
    decodeTableWord 8 10 = none ∧ decodeTableWord 8 15 = none ∧
    decode (.engineState 10) = .error (.reservedState 10) := ⟨by decide, by decide, rfl⟩

theorem test_decode_events : decode (.event .tick) = .ok .tick ∧ decode (.event .reset) = .ok .reset :=
  ⟨rfl, rfl⟩

/-- The assembler's words (R91, 95 section 2.1). -/
theorem test_assembler :
    asmSetCfg 5 2 = 0x2800000205 ∧ asmSetTo 100 = 0x2C00000064 ∧ asmRd .rsvd1C = 0x1C00000000 ∧
    asmWr .data0 0x12345678 = 0x3012345678 := by decide

/-! ### Fetching -/

/-- The word placed is the one the next step runs. -/
theorem test_withFetchWord_hostop :
    shown (step (State.reset.withFetchWord 40 0x0400000000)) = some (.busRead 0x04 0) := by decide

theorem test_withFetchWord_engine :
    after Block.state (step (State.reset.withFetchWord 8 9)) = some 0 ∧
    after Block.lineOe (step (State.reset.withFetchWord 8 9)) = some true := by decide

/-- An access inside the window at BASE + 4 reads STATUS; one of two bytes is refused (20_memory.md R61, R63). -/
theorem test_bus_access_width (a : Nat) :
    step (machine Block.reset [.bus ⟨false, a, 2, 0⟩] []) = .refused (.unsupportedWidth 2) := rfl

/-! ### Register reads: 95_test_vectors.md section 2.2, programs P1 and P3 -/

theorem test_rd_ctrl_after_init : shown (run1 .rdCtrl (idleB 100)) = some (.busRead 0x00 0) := by decide
theorem test_rd_status_reset : shown (run1 .rdStatus Block.reset) = some (.busRead 0x04 0) := by decide
theorem test_rd_status_after_p1 : shown (run1 .rdStatus afterP1) = some (.busRead 0x04 0x00028016) := by decide
theorem test_rd_config : shown (run1 .rdConfig (Block.reset.storeConfig 0xFFFFFFFF)) =
    some (.busRead 0x08 0x0000FFFF) := by decide
theorem test_rd_timeout : shown (run1 .rdTimeout (Block.reset.storeTimeout 0xDEADBEEF)) =
    some (.busRead 0x0C 0xDEADBEEF) := by decide
theorem test_rd_data0 : shown (run1 .rdData0 afterP1) = some (.busRead 0x10 0x00180037) := by decide
theorem test_rd_data1 : shown (run1 .rdData1 afterP1) = some (.busRead 0x14 0x0000004F) := by decide
theorem test_rd_rsvd : shown (run1 (.rdRsvd 0x18) afterP1) = some (.busRead 0x18 0) := by decide

/-! ### Writes and commands: 95_test_vectors.md section 2.2 -/

theorem test_wr_config : after Block.cfgPin (run1 (.wrConfig 0x0205) Block.reset) = some 5 ∧
    after Block.cfgTimer (run1 (.wrConfig 0x0205) Block.reset) = some 2 := by decide
theorem test_wr_timeout_while_busy : after Block.timeout (run1 (.wrTimeout 3) (ackB 100 3 50)) = some 3 ∧
    after Block.actTimeout (run1 (.wrTimeout 3) (ackB 100 3 50)) = some 100 := by decide
theorem test_wr_status : after Block.result (run1 (.wrStatus 0) timeoutB.endError) = some 5 := by decide
theorem test_wr_data0 : after Block.data0 (run1 (.wrData0 0x12345678) afterP1) = some 0x00180037 := by decide
theorem test_wr_data1 : after Block.data1 (run1 (.wrData1 0x12345678) afterP1) = some 0x0000004F := by decide
theorem test_wr_rsvd : after id (run1 (.wrRsvd 0x1C 7) afterP1) = some afterP1 := by decide
theorem test_nop_keeps_result : after Block.result (run1 .wrNop { idleB 1 with result := 6 }) = some 6 := by decide
theorem test_reserved_command : after id (run1 .wrCmdRsvd (idleB 1)) = some (idleB 1) := by decide

/-- INIT is ignored in BIT_HIGH (R112), READ in START. -/
theorem test_commands_while_busy :
    after id (run1 .wrInit (bitHighB 3)) = some (bitHighB 3) ∧
    after id (run1 .wrRead (startB 100 0)) = some (startB 100 0) := by decide

/-- The STATUS word after INIT from reset with this CONFIG and TIMEOUT, and LINE_OE. -/
def initFrom (config timeout : Word) : Word × Bool :=
  let b := Block.command (Block.initialize refParams) ((Block.reset.storeConfig config).storeTimeout timeout)
  (b.statusWord, b.lineOe)

theorem test_init_passes :
    initFrom 0x0205 100 = (0x00000012, true) ∧ initFrom 0x0205 0xFFFFFFFF = (0x00000012, true) ∧
    initFrom 0x0100 1 = (0x00000012, true) := by decide

/-- The validation order (R204). -/
theorem test_init_fails :
    initFrom 0x0020 0 = (0x00000020, false) ∧ initFrom 0x0010 5 = (0x00000020, false) ∧
    initFrom 0x000F 0 = (0x00000030, false) ∧ initFrom 0x050F 5 = (0x00000030, false) ∧
    initFrom 0x0400 0 = (0x00000040, false) := by decide

theorem test_read_from_reset : after Block.statusWord (run1 .wrRead Block.reset) = some 0x00000070 ∧
    after Block.lineOe (run1 .wrRead Block.reset) = some false := by decide
theorem test_read_accepted : after Block.statusWord (run1 .wrRead afterP1) = some 0x00000103 ∧
    after Block.pullsLow (run1 .wrRead afterP1) = some true := by decide

theorem test_misaligned01 : run1 (.misaligned01 true 0x0D 0) (idleB 1) = .refused (.misalignedAccess true 0x0D) := rfl
theorem test_misaligned10 : run1 (.misaligned10 false 0x06 0) (idleB 1) = .refused (.misalignedAccess false 0x06) := rfl
theorem test_misaligned11 : run1 (.misaligned11 true 0x1F 1) (idleB 1) = .refused (.misalignedAccess true 0x1F) := rfl

/-! ### ENGINE steps: 95_test_vectors.md sections 2.3 to 2.5 -/

theorem test_step_idle : after id (run1 .stepIdle afterP1) = some afterP1 := by decide
theorem test_step_start_waits : after id (run1 .stepStart (startB 100 19999)) = some (startB 100 19999) := by decide
theorem test_step_start_leaves : after Block.statusWord (run1 .stepStart (startB 100 20000)) = some 0x00000203 ∧
    after id (run1 .stepStart (startB 100 20000)) = some (ackB 100 2 100) := by decide
theorem test_ack_a_passes : after id (run0 .stepAckA (ackB 1 2 1)) = some (ackB 1 3 1) := by decide
theorem test_ack_a_fails : after id (run1 .stepAckA (ackB 1 2 1)) = some { ackB 1 9 0 with pend := 5 } := by decide
theorem test_ack_b_passes : after id (run1 .stepAckB (ackB 3 3 2)) = some (ackB 3 4 3) := by decide
theorem test_ack_b_fails : after id (run0 .stepAckB (ackB 3 3 1)) = some { ackB 3 9 0 with pend := 5 } := by decide
theorem test_ack_c_passes : after id (run0 .stepAckC { ackB 3 4 1 with cnt := 26 }) = some (ackB 3 5 1) := by decide
theorem test_ack_c_spends : after id (run1 .stepAckC (ackB 3 4 2)) = some (ackB 3 4 1) := by decide
theorem test_bit_high_waits : after id (run0 .stepBitHigh (bitHighB 3)) = some (bitHighB 3) := by decide
theorem test_bit_high_rises : after id (run1 .stepBitHigh (bitHighB 3)) = some (bitLowB 3 0 0) := by decide
theorem test_bit_low_waits : after id (run1 .stepBitLow (bitLowB 3 0 5)) = some (bitLowB 3 0 5) := by decide

theorem test_bit_low_takes :
    Block.bitLowRule refParams false (bitLowB 0 0 70) = { bitHighB 1 with shift := 0x8000000000 } ∧
    Block.bitLowRule refParams false (bitLowB 0 0 40) = bitHighB 1 := by decide

theorem test_bit_low_last :
    Block.bitLowRule refParams false (bitLowB 39 0x370018004E 70) =
      { endB 7 0x370018004F with cnt := 70 } := by decide

/-- R167: the sample that brings POLLS to 0 fails, and BIT_LOW stops the timer. -/
theorem test_bounded_bit_waits :
    Block.bitHighRule (boundedParams 2) true (bitHighB 3) = { bitLowB 3 0 0 with polls := 2 } ∧
    (Block.bitLowRule (boundedParams 2) true { bitLowB 3 0 9 with polls := 1 }) =
      { bitLowB 3 0 9 with polls := 0, run := false, pend := 5, state := 9 } := by decide

theorem test_check : after Block.state (run1 .stepCheck (endB 7 0x370018004F)) = some 8 ∧
    after Block.statusWord (run1 .stepCheck (endB 7 0x3700180050)) = some 0x00028903 := by decide
theorem test_done : after Block.statusWord (run1 .stepDone (endB 8 0x370018004F)) = some 0x00028016 ∧
    after Block.data0 (run1 .stepDone (endB 8 0x370018004F)) = some 0x00180037 := by decide
theorem test_error_timeout : after Block.statusWord (run1 .stepError timeoutB) = some 0x00000052 ∧
    after Block.lineOe (run1 .stepError timeoutB) = some true := by decide
theorem test_error_checksum :
    after id (run1 .stepError { endB 9 0x3700180050 with pend := 6 }) =
      some { endB 0 0 with result := 6, lineOe := true } := by decide

/-! ### Events: 95_test_vectors.md sections 2.3, 2.4 and 2.6 -/

theorem test_tick_counts : after Block.cnt (run1 .tick (bitLowB 0 0 69)) = some 70 ∧
    after Block.cnt (run1 .tick (bitLowB 0 0 0xFFFFFFFF)) = some 0 := by decide
theorem test_tick_delay : after Block.dly (run1 .tick (startB 1 19999)) = some 20000 ∧
    after Block.dly (run1 .tick (startB 1 20000)) = some 20000 := by decide
theorem test_reset : after id (run1 .reset (bitHighB 7)) = some Block.reset := by decide

/-! ### Pure functions: 95_test_vectors.md sections 2.4 and 2.5 -/

theorem test_classify :
    ([0, 1, 26, 39, 40, 41, 70, 0xFFFFFFFF] : List Word).map (classify 40) =
      [false, false, false, false, false, true, true, true] ∧
    classify 0 1 = true ∧ classify 0xFFFFFFFF 0xFFFFFFFF = false := by decide

theorem test_pack :
    pack 0 0 true = 0x8000000000 ∧ pack 0 7 true = 0x0100000000 ∧ pack 0 8 true = 0x0080000000 ∧
    pack 0 39 true = 0x0000000001 ∧ pack 0xFFFFFFFFFF 0 false = 0x7FFFFFFFFF := by decide

theorem test_checksum :
    ([0x370018004F, 0xFFFF020000, 0xFFFFFFFFFC, 0x010203040A, 0, 0x8080000000, 0xB78018004F] : List Buffer).map
      checksumOk = [true, true, true, true, true, true, true] ∧
    ([0x370018004E, 0x3700180050, 0x360018004F] : List Buffer).map checksumOk = [false, false, false] := by decide

/-! ### Witnesses: states that meet the hypotheses of each statement -/

/-- Proves the invariant of a block written out in numbers: every item is decidable. -/
theorem inv_of {b : Block}
    (h1 : b.state.toNat ≤ 9 ∧ b.bitidx.toNat ≤ 40 ∧ (b.run = true ↔ b.state = St.bitLow) ∧
      (b.state = St.start ↔ b.busy = true ∧ b.lineOe = true ∧ b.lineOut = false))
    (h5 : (b.state = St.ackA ∨ b.state = St.ackB ∨ b.state = St.ackC) ∨ b.state = St.bitHigh ∨
      b.state = St.bitLow ∨ b.state = St.check ∨ b.state = St.done ∨ b.state = St.error → b.lineOe = false)
    (h6 : (b.state = St.idle → b.initialized = true → b.lineOe = true ∧ b.lineOut = true) ∧
      (b.pend ≠ Res.none ↔ b.state = St.error) ∧
      (b.valid = true → b.state = St.idle ∧ b.result = Res.ok ∧ checksumOk b.reading = true) ∧
      (b.valid = false → b.data0 = 0 ∧ b.data1 = 0) ∧ b.dly.toNat ≤ startLowTicks.toNat ∧
      (b.busy = true → b.initialized = true ∧ b.actTimeout ≠ 0))
    (h7 : b.result.toNat ≤ 7 ∧ (b.pend = Res.none ∨ b.pend = Res.rdTimeout ∨ b.pend = Res.rdChecksum) ∧
      (b.initialized = true → b.actTimeout ≠ 0) ∧ (b.busy = true → b.result = Res.none))
    (h8 : (b.state = St.ackA ∨ b.state = St.ackB ∨ b.state = St.ackC) →
      1 ≤ b.polls.toNat ∧ b.polls.toNat ≤ b.actTimeout.toNat)
    (h9 : b.state = St.start ∨ (b.state = St.ackA ∨ b.state = St.ackB ∨ b.state = St.ackC) →
      b.bitidx = 0 ∧ b.shift = 0)
    (h10 : (b.state = St.bitHigh → b.cnt = 0) ∧ (b.state = St.bitHigh ∨ b.state = St.bitLow → b.bitidx.toNat < 40) ∧
      (b.state = St.check ∨ b.state = St.done → b.bitidx = nbits) ∧
      (b.state = St.done → checksumOk b.shift = true))
    (h11 : (b.pend = Res.rdTimeout → b.bitidx = 0 ∧ b.shift = 0) ∧ (b.pend = Res.rdChecksum → b.bitidx = nbits) ∧
      (b.result = Res.rdTimeout → b.bitidx = 0 ∧ b.shift = 0) ∧
      (b.result = Res.rdChecksum → b.bitidx = nbits ∧ b.shift = 0) ∧ b.data1.toNat < 256) : b.Inv :=
  { item1 := h1.1, item2 := h1.2.1, item3 := h1.2.2.1, item4 := h1.2.2.2, item5 := h5, item6 := h6.1,
    item7 := h6.2.1, item8 := h6.2.2.1, item9 := h6.2.2.2.1, item10 := h6.2.2.2.2.1, item11 := h6.2.2.2.2.2,
    legalResult := h7.1, legalPend := h7.2.1, latched := h7.2.2.1, busyResult := h7.2.2.2, budget := h8,
    emptyBuffer := h9, freshCount := h10.1, bitsMissing := h10.2.1, allBits := h10.2.2.1, checked := h10.2.2.2,
    timeoutPending := h11.1, checksumPending := h11.2.1, timeoutReported := h11.2.2.1,
    checksumReported := h11.2.2.2.1, data1High := h11.2.2.2.2 }

theorem inv_idleB : (idleB 1).Inv := by apply inv_of <;> decide
theorem inv_afterP1 : afterP1.Inv := by apply inv_of <;> decide
theorem inv_startB : (startB 1 20000).Inv := by apply inv_of <;> decide
theorem inv_startB_0 : (startB 1 0).Inv := by apply inv_of <;> decide
theorem inv_ackA : (ackB 1 2 1).Inv := by apply inv_of <;> decide
theorem inv_ackB : (ackB 1 3 1).Inv := by apply inv_of <;> decide
theorem inv_ackC : (ackB 1 4 1).Inv := by apply inv_of <;> decide
theorem inv_bitHigh : (bitHighB 0).Inv := by apply inv_of <;> decide
theorem inv_bitLow : (bitLowB 39 0x370018004E 70).Inv := by apply inv_of <;> decide
theorem inv_check : (endB 7 0x3700180050).Inv := by apply inv_of <;> decide
theorem inv_done : (endB 8 0x370018004F).Inv := by apply inv_of <;> decide
theorem inv_error : timeoutB.Inv := by apply inv_of <;> decide
theorem inv_after_error : timeoutB.endError.Inv := by apply inv_of <;> decide

/-! Encoding. -/

theorem witness_DecodeOfEncodeIsTheInstruction :
    (Instr.rdRsvd 0x1C).wf = true ∧ (Instr.wrRsvd 0x18 0xFFFFFFFF).wf = true ∧
    (Instr.misaligned11 true 0x1F 0xFFFFFFFF).wf = true ∧ Instr.stepError.wf = true := by decide

theorem witness_EveryHostWordDecodesToExactlyItsTableRow :
    howTop 0x0000000000 = 0 ∧ howTop 0x3FFFFFFFFF = 0 := by decide

theorem witness_IgnoredDataBitsDoNotChangeTheDecoding :
    BitVec.extractLsb' 0 2 (0x1C#5) = 0#2 ∧ BitVec.extractLsb' 0 2 (0xFFFFFFFC#32) = 0#2 ∧
    BitVec.extractLsb' 0 2 (0xFFFFFFFD#32) = 1#2 ∧ BitVec.extractLsb' 0 2 (0xFFFFFFFE#32) = 2#2 ∧
    BitVec.extractLsb' 0 2 (0xFFFFFFFF#32) = 3#2 := by decide

/-! The step. -/

theorem witness_StepRunsTheDecodedInstruction :
    ((machine (bitLowB 0 0 0) [.engine] []).agenda = [.engine] ∧
      decode (.engineState (bitLowB 0 0 0).state) = .ok .stepBitLow) ∧
    ((machine Block.reset [.host asmRead] []).agenda = [.host asmRead] ∧ decode (.hostop asmRead) = .ok .wrRead) ∧
    (machine Block.reset [.tick] []).agenda = [.tick] ∧ (machine Block.reset [.reset] []).agenda = [.reset] ∧
    State.reset.agenda = [] := ⟨⟨rfl, rfl⟩, ⟨rfl, rfl⟩, rfl, rfl, rfl⟩

theorem witness_StateCodesSelectTheEngineRules :
    (machine { Block.reset with state := 10 } [.engine] []).agenda = .engine :: [] ∧
    10 ≤ (machine { Block.reset with state := 10 } [.engine] []).blk.state.toNat ∧
    10 ≤ (machine { Block.reset with state := 15 } [.engine] []).blk.state.toNat := by decide

/-- Accesses at both ends of the window, and just past it. -/
def busAt (d bytes : Nat) : BusAccess := { write := true, addr := Config.base + d, bytes := bytes, data := 0 }

theorem witness_BusAccessInTheWindowIsItsHostOperation :
    (machine Block.reset [.bus { write := true, addr := Config.base + (0x1F : Offset).toNat, bytes := 4, data := 5 }] []).agenda =
      .bus { write := true, addr := Config.base + (0x1F : Offset).toNat, bytes := 4, data := 5 } :: [] := rfl

theorem witness_UnsupportedAccessesAreRefused :
    ((machine Block.reset [.host (howWord false 0x06 0)] []).agenda = .host (howWord false 0x06 0) :: [] ∧
      BitVec.extractLsb' 0 2 (0x06#5) ≠ 0#2 ∧ BitVec.extractLsb' 0 2 (0x1F#5) ≠ 0#2) ∧
    (machine Block.reset [.bus (busAt 0 2)] []).agenda = .bus (busAt 0 2) :: [] ∧ (busAt 0 2).bytes ≠ 4 ∧
    ((busAt 32 4).bytes = 4 ∧ Config.base + 31 < (busAt 32 4).addr) ∧
    ((busAt 1 4).bytes = 4 ∧ Config.base ≤ (busAt 1 4).addr ∧ (busAt 1 4).addr ≤ Config.base + 31 ∧
      (busAt 1 4).addr % 4 ≠ 0) ∧
    ((busAt 31 4).addr ≤ Config.base + 31 ∧ (busAt 31 4).addr % 4 ≠ 0) := by
  have hb : Config.base % 4 = 0 := by unfold Config.base; omega
  refine ⟨⟨rfl, by decide, by decide⟩, rfl, by simp [busAt], ⟨rfl, ?_⟩, ⟨rfl, ?_, ?_, ?_⟩, ?_, ?_⟩ <;>
    simp only [busAt] <;> omega

theorem witness_NoStepFaultsUnderTheInvariant : (machine timeoutB [.engine] []).blk.Inv := inv_error

/-! Reads. -/

theorem witness_StatusReadShowsItsFields :
    (machine (bitLowB 39 0x370018004E 70) [] []).blk.Inv ∧
    (machine (bitLowB 39 0x370018004E 70) [] []).blk.state ≠ 0#4 := ⟨inv_bitLow, by decide⟩

theorem witness_DataReadsReturnTheReading :
    (machine (idleB 1) [] []).blk.Inv ∧ (machine (idleB 1) [] []).blk.valid = false ∧
    (machine afterP1 [] []).blk.Inv := ⟨inv_idleB, rfl, inv_afterP1⟩

/-- Two blocks that differ in every hidden element. -/
theorem witness_ReadsRevealOnlyTheVisibleState :
    (bitHighB 3).SameVisible { bitHighB 3 with
      polls := 1, dly := 2, cnt := 3, run := true, shift := 4, pend := 5, actPin := 6, actTimer := 7,
      actTimeout := 8, lineOe := true, lineOut := false } ∧
    BitVec.extractLsb' 0 2 (0x04#5) = 0#2 ∧ decode (.hostop (howWord false 0x04 9)) = .ok .rdStatus :=
  ⟨⟨rfl, rfl, rfl, rfl, rfl, rfl, rfl, rfl, rfl, rfl⟩, by decide, rfl⟩

/-! Commands. -/

theorem witness_CommandsWhileBusyAreDropped :
    (machine (startB 1 0) [] []).blk.state ≠ 0#4 ∧ (machine timeoutB [] []).blk.state ≠ 0#4 := by decide

theorem witness_InitReportsTheFirstConfigurationFault :
    (machine (idleB 1) [] []).blk.state = 0#4 ∧
    refParams.validPin (Block.reset.storeConfig 0x0010).cfgPin = false ∧
    (refParams.validPin (Block.reset.storeConfig 0x050F).cfgPin = true ∧
      refParams.validTimer (Block.reset.storeConfig 0x050F).cfgTimer = false) ∧
    (refParams.validPin (Block.reset.storeConfig 0x0400).cfgPin = true ∧
      refParams.validTimer (Block.reset.storeConfig 0x0400).cfgTimer = true ∧
      (Block.reset.storeConfig 0x0400).timeout = 0) := by decide

theorem witness_InitValidatesAndLatchesTheConfiguration :
    (machine Block.reset [] []).blk.state = 0#4 ∧ (machine (startB 1 0) [] []).blk.state ≠ 0#4 := by decide

theorem witness_InitIsIdempotent : (machine afterP1 [] []).blk.state = 0#4 := by decide

theorem witness_ReadBeforeInitIsRefused :
    (machine Block.reset [] []).blk.state = 0#4 ∧ (machine Block.reset [] []).blk.initialized = false := by decide

theorem witness_ReadStartsATransaction :
    (machine afterP1 [] []).blk.state = 0#4 ∧ (machine afterP1 [] []).blk.initialized = true := by decide

/-! ENGINE steps. -/

theorem witness_StartStepReleasesTheLineAfter20000Ticks :
    (machine (startB 1 20000) [] []).blk.dly = 20000#16 ∧
    (machine (startB 1 19999) [] []).blk.dly ≠ 20000#16 := by decide

theorem witness_AckPhasesAAndBWaitForTheirLevel :
    (machine (ackB 3 2 1) [] [false]).sampleLevel = false ∧
    ((machine (ackB 3 2 2) [] [true]).sampleLevel = true ∧ (machine (ackB 3 2 2) [] [true]).blk.polls ≠ 1) ∧
    ((machine (ackB 3 2 1) [] [true]).sampleLevel = true ∧ (machine (ackB 3 2 1) [] [true]).blk.polls = 1) ∧
    ((machine (ackB 3 3 2) [] [false]).sampleLevel = false ∧ (machine (ackB 3 3 2) [] [false]).blk.polls ≠ 1) ∧
    ((machine (ackB 3 3 1) [] [false]).sampleLevel = false ∧ (machine (ackB 3 3 1) [] [false]).blk.polls = 1) := by
  decide

theorem witness_AckPhaseCEntersTheFirstBit :
    (machine (ackB 3 4 1) [] [false]).sampleLevel = false ∧
    ((machine (ackB 3 4 2) [] [true]).sampleLevel = true ∧ (machine (ackB 3 4 2) [] [true]).blk.polls ≠ 1) ∧
    ((machine (ackB 3 4 1) [] [true]).sampleLevel = true ∧ (machine (ackB 3 4 1) [] [true]).blk.polls = 1) ∧
    ((machine (ackB 1 4 1) [] []).blk.Inv ∧ (machine (ackB 1 4 1) [] []).blk.state = 4#4) ∧
    (boundedParams 3).bitWaitLimit = some 3 :=
  ⟨by decide, by decide, by decide, ⟨inv_ackC, rfl⟩, rfl⟩

theorem witness_HandshakeTimeoutReturnsNoPartialData :
    ∃ t, (machine (ackB 1 3 1) [.engine] [false]).blk.Inv ∧ (machine (ackB 1 3 1) [.engine] [false]).blk.inHandshake ∧
      step (machine (ackB 1 3 1) [.engine] [false]) = .next t ∧ t.blk.state = 9#4 :=
  ⟨_, inv_ackB, .inr (.inl rfl), rfl, rfl⟩

theorem witness_EngineSamplesExactlyOnceInSamplingStates :
    (machine (ackB 3 2 3) [.engine] [true]).agenda = .engine :: [] ∧
    (machine (ackB 3 2 3) [.engine] [true]).line = true :: [] ∧ (ackB 3 2 3).pend.toNat < 8 ∧
    2 ≤ (ackB 3 2 3).state.toNat ∧ (bitLowB 0 0 0).state.toNat ≤ 6 ∧ (startB 1 0).state.toNat < 2 ∧
    6 < (endB 7 0).state.toNat ∧ timeoutB.state.toNat ≤ 9 := by decide

theorem witness_TickCountsTheTimerAndTheStartPulse :
    (bitLowB 0 0 0xFFFFFFFF).run = true ∧ (idleB 1).run = false ∧
    ((startB 1 19999).state = 1#4 ∧ (startB 1 19999).dly.toNat < 20000) ∧ (idleB 1).state ≠ 1#4 ∧
    20000 ≤ (startB 1 20000).dly.toNat := by decide

theorem witness_ClassifyIsStrictAndUnsigned : (0xFFFFFFFE : Word).toNat < 0xFFFFFFFF := by decide

theorem witness_PackReplacesOneBitInTransactionOrder : (0 : BitVec 6).toNat ≤ 39 ∧ (39 : BitVec 6).toNat ≤ 39 := by
  decide

theorem witness_BitHighStepStartsTheTimerOnTheRise :
    (machine (bitHighB 3) [] [true]).sampleLevel = true ∧ (machine (bitHighB 3) [] [false]).sampleLevel = false ∧
    ((machine (bitHighB 0) [] []).blk.Inv ∧ (machine (bitHighB 0) [] []).blk.state = 5#4) ∧
    (boundedParams 3).bitWaitLimit = some 3 ∧ (machine (bitHighB 0) [] []).blk.polls ≠ 1 ∧
    (machine { bitHighB 0 with polls := 1 } [] []).blk.polls = 1 :=
  ⟨by decide, by decide, ⟨inv_bitHigh, rfl⟩, rfl, by decide, rfl⟩

theorem witness_BitLowStepTakesTheBitOnTheFall :
    (machine (bitLowB 0 0 5) [] [true]).sampleLevel = true ∧
    ((machine (bitLowB 38 0 5) [] [false]).sampleLevel = false ∧
      (machine (bitLowB 38 0 5) [] [false]).blk.bitidx.toNat < 39) ∧
    ((machine (bitLowB 39 0 5) [] [false]).sampleLevel = false ∧
      (machine (bitLowB 39 0 5) [] [false]).blk.bitidx = 39#6) ∧
    ((machine (bitLowB 39 0x370018004E 70) [] []).blk.Inv ∧
      (machine (bitLowB 39 0x370018004E 70) [] []).blk.state = 6#4) ∧
    (boundedParams 3).bitWaitLimit = some 3 ∧ (bitLowB 38 0 5).polls ≠ 1 ∧
    ({ bitLowB 38 0 5 with polls := 1 } : Block).polls = 1 :=
  ⟨by decide, by decide, by decide, ⟨inv_bitLow, rfl⟩, rfl, by decide, rfl⟩

theorem witness_BoundedBitWaitsFailAtTheirLimit :
    (boundedParams 1).bitWaitLimit = some 1 ∧ 1 ≤ (1 : Word).toNat ∧ (bitLowB 38 0 5).bitidx.toNat < 39 ∧
    ({ bitHighB 0 with polls := 1 } : Block).polls = 1 ∧ 0 < (1 : Word).toNat ∧ 1 = (1 : Word).toNat := by decide

/-! Completion. -/

theorem witness_SingleBitErrorsAreDetected : (39 : Nat) < 40 ∧ checksumOk 0x370018004F = true := by decide

theorem witness_CheckStepComparesTheChecksum :
    checksumOk (machine (endB 7 0x370018004F) [] []).blk.shift = true ∧
    checksumOk (machine (endB 7 0x3700180050) [] []).blk.shift = false := by decide

theorem witness_ErrorStepReportsAndRestoresTheLine :
    ({ timeoutB with pend := 7 } : Block).pend.toNat < 8 ∧ 8 ≤ ({ timeoutB with pend := 8 } : Block).pend.toNat := by
  decide

theorem witness_RejectedBufferLeavesNoTrace :
    (machine (endB 7 0x3700180050) [] []).blk.pend.toNat < 8 ∧
    checksumOk (machine (endB 7 0x3700180050) [] []).blk.shift = false ∧ checksumOk 0x360018004F = false := by decide

theorem witness_FailedReadsNeverShowData :
    (machine timeoutB.endError [] []).blk.Inv ∧ (machine timeoutB.endError [] []).blk.result = 5#4 :=
  ⟨inv_after_error, rfl⟩

theorem witness_IdleLineAfterEveryTransactionAllowsARetry :
    ((machine (endB 8 0x370018004F) [] []).blk.Inv ∧ (machine (endB 8 0x370018004F) [] []).blk.state = 8#4) ∧
    ((machine timeoutB [] []).blk.Inv ∧ (machine timeoutB [] []).blk.state = 9#4) :=
  ⟨⟨inv_done, rfl⟩, inv_error, rfl⟩

theorem witness_TheHangIsAFairRun :
    (machine (bitHighB 0) [] []).blk.state = 5#4 ∧ (machine (bitLowB 0 0 0) [] []).blk.state = 6#4 := by decide

/-! Whole-machine rules: one witness for each state the table names. -/

theorem witness_EngineFollowsTheTransitionTable :
    (∃ t, (machine (idleB 1) [.engine] [true]).blk.Inv ∧ step (machine (idleB 1) [.engine] [true]) = .next t) ∧
    (∃ t, (machine (startB 1 20000) [.engine] [true]).blk.Inv ∧
      step (machine (startB 1 20000) [.engine] [true]) = .next t) ∧
    (∃ t, (machine (ackB 1 2 1) [.engine] [true]).blk.Inv ∧ step (machine (ackB 1 2 1) [.engine] [true]) = .next t) ∧
    (∃ t, (machine (ackB 1 3 1) [.engine] [true]).blk.Inv ∧ step (machine (ackB 1 3 1) [.engine] [true]) = .next t) ∧
    (∃ t, (machine (ackB 1 4 1) [.engine] [true]).blk.Inv ∧ step (machine (ackB 1 4 1) [.engine] [true]) = .next t) ∧
    (∃ t, (machine (bitHighB 0) [.engine] [true]).blk.Inv ∧ step (machine (bitHighB 0) [.engine] [true]) = .next t) ∧
    (∃ t, (machine (bitLowB 39 0x370018004E 70) [.engine] [false]).blk.Inv ∧
      step (machine (bitLowB 39 0x370018004E 70) [.engine] [false]) = .next t) ∧
    (∃ t, (machine (endB 7 0x3700180050) [.engine] [true]).blk.Inv ∧
      step (machine (endB 7 0x3700180050) [.engine] [true]) = .next t) ∧
    (∃ t, (machine (endB 8 0x370018004F) [.engine] [true]).blk.Inv ∧
      step (machine (endB 8 0x370018004F) [.engine] [true]) = .next t) ∧
    (∃ t, (machine timeoutB [.engine] [true]).blk.Inv ∧ step (machine timeoutB [.engine] [true]) = .next t) ∧
    (∃ t, step (machine (idleB 1) [.host asmRead] []) = .next t ∧
      (machine (idleB 1) [.host asmRead] []).nextInput ≠ .engine) :=
  ⟨⟨_, inv_idleB, rfl⟩, ⟨_, inv_startB, rfl⟩, ⟨_, inv_ackA, rfl⟩, ⟨_, inv_ackB, rfl⟩, ⟨_, inv_ackC, rfl⟩,
   ⟨_, inv_bitHigh, rfl⟩, ⟨_, inv_bitLow, rfl⟩, ⟨_, inv_check, rfl⟩, ⟨_, inv_done, rfl⟩, ⟨_, inv_error, rfl⟩,
   ⟨_, rfl, by decide⟩⟩

theorem witness_HostVisibleElementsChangeOnlyWhereTheSpecSays :
    ∃ t, exec .stepDone (machine (endB 8 0x370018004F) [] []) = .next t ∧ t.blk.data0 ≠ 0 ∧ t.blk.result ≠ 0 :=
  ⟨_, rfl, by decide, by decide⟩

theorem witness_EngineElementsChangeOnlyWhereTheSpecSays :
    ∃ t, exec .wrRead (machine { afterP1 with polls := 99 } [] []) = .next t ∧ t.blk.bitidx ≠ 40 ∧ t.blk.polls ≠ 99 ∧
      t.blk.dly ≠ 20000 :=
  ⟨_, rfl, by decide, by decide, by decide⟩

theorem witness_ReachableStatesSatisfyR39 : ∃ s, Reachable s ∧ s.blk.result = 7#4 :=
  ⟨_, .step State.reset _ (.host asmRead) true .reset rfl, rfl⟩

theorem witness_EveryStepKeepsTheInvariant :
    ∃ t, (machine (startB 1 0) [.tick] []).blk.Inv ∧ step (machine (startB 1 0) [.tick] []) = .next t ∧
      t.blk.dly = 1 :=
  ⟨_, inv_startB_0, rfl, by decide⟩

/-! ### Witness runs -/

/-- The run from `s` under a schedule and a line; it stands still where a step does not complete. -/
def runFrom (s : State) (xs : Nat → Input) (vs : Nat → Bool) : Nat → State
  | 0 => s
  | k + 1 =>
    match step ((runFrom s xs vs k).feed (xs k) (vs k)) with
    | .next t => t
    | .fault _ => runFrom s xs vs k
    | .refused _ => runFrom s xs vs k

/-- Enough for every ENGINE and TICK step to complete. -/
def Steady (b : Block) : Prop := b.state.toNat ≤ 9 ∧ b.pend.toNat < 8

theorem missedPoll_steady {b : Block} (h : Steady b) : Steady b.missedPoll := by
  rcases b.missedPoll_cases with ⟨-, e⟩ | ⟨-, e⟩ <;> rw [e]
  · exact ⟨by simp, by simp⟩
  · exact h

theorem await_steady {b : Block} (h : Steady b) (level v : Bool) (next : Code) (entry : Block → Block)
    (hn : next.toNat ≤ 9) (he : (entry b).pend = b.pend) : Steady (Block.await level next entry v b) := by
  rcases Block.await_cases level next entry v b with ⟨-, e⟩ | ⟨-, e⟩ <;> rw [e]
  · exact ⟨hn, by simpa [he] using h.2⟩
  · exact missedPoll_steady h

theorem nextBit_steady {b : Block} (h : b.pend.toNat < 8) : Steady (b.nextBit Config.hw) := by
  rcases b.nextBit_cases with ⟨-, e⟩ | ⟨-, e⟩ <;> rw [e] <;> exact ⟨by simp, h⟩

theorem code_cases : ∀ c : Code, c.toNat ≤ 9 → c = 0 ∨ c = 1 ∨ c = 2 ∨ c = 3 ∨ c = 4 ∨ c = 5 ∨ c = 6 ∨ c = 7 ∨
    c = 8 ∨ c = 9 := by decide

/-- Every ENGINE step from a steady state completes in a steady state. -/
theorem engine_steady {s : State} (h : Steady s.blk) (v : Bool) :
    ∃ t, step (s.feed .engine v) = .next t ∧ Steady t.blk := by
  obtain ⟨h1, h2⟩ := h
  rcases code_cases _ h1 with hs | hs | hs | hs | hs | hs | hs | hs | hs | hs
  · exact ⟨_, step_feed_engine (i := .stepIdle) (by rw [hs]; rfl) v, h1, h2⟩
  · refine ⟨_, (step_feed_engine (i := .stepStart) (by rw [hs]; rfl) v).trans rfl, ?_⟩
    rcases s.blk.startRule_cases with ⟨-, e⟩ | ⟨-, e⟩ <;> simp only [State.setBlk, State.feed, State.takeInput, e]
    · exact ⟨by simp, h2⟩
    · exact ⟨h1, h2⟩
  · exact ⟨_, (step_feed_engine (i := .stepAckA) (by rw [hs]; rfl) v).trans rfl,
      await_steady ⟨h1, h2⟩ _ _ _ _ (by decide) rfl⟩
  · exact ⟨_, (step_feed_engine (i := .stepAckB) (by rw [hs]; rfl) v).trans rfl,
      await_steady ⟨h1, h2⟩ _ _ _ _ (by decide) rfl⟩
  · exact ⟨_, (step_feed_engine (i := .stepAckC) (by rw [hs]; rfl) v).trans rfl,
      await_steady ⟨h1, h2⟩ _ _ _ _ (by decide) rfl⟩
  · refine ⟨_, (step_feed_engine (i := .stepBitHigh) (by rw [hs]; rfl) v).trans rfl, ?_⟩
    cases v
    · exact ⟨h1, h2⟩
    · exact ⟨(by decide : St.bitLow.toNat ≤ 9), h2⟩
  · refine ⟨_, (step_feed_engine (i := .stepBitLow) (by rw [hs]; rfl) v).trans rfl, ?_⟩
    cases v
    · exact nextBit_steady h2
    · exact ⟨h1, h2⟩
  · refine ⟨_, (step_feed_engine (i := .stepCheck) (by rw [hs]; rfl) v).trans rfl, ?_⟩
    rcases s.blk.checkRule_cases with ⟨-, e⟩ | ⟨-, e⟩ <;> simp only [State.setBlk, State.feed, State.takeInput, e]
    · exact ⟨by simp, h2⟩
    · exact ⟨by simp, by simp⟩
  · exact ⟨_, (step_feed_engine (i := .stepDone) (by rw [hs]; rfl) v).trans rfl, (by decide : St.idle.toNat ≤ 9), h2⟩
  · refine ⟨_, (step_feed_engine (i := .stepError) (by rw [hs]; rfl) v).trans (if_neg fun hc => ?_),
      (by decide : St.idle.toNat ≤ 9), (by decide : Res.none.toNat < 8)⟩
    have := of_decide_eq_true hc
    exact absurd h2 (Nat.not_lt.2 this)

/-- Every TICK from a steady state completes in a steady state. -/
theorem tick_steady {s : State} (h : Steady s.blk) (v : Bool) :
    ∃ t, step (s.feed .tick v) = .next t ∧ Steady t.blk := by
  refine ⟨_, rfl, ?_⟩
  simp only [State.setBlk, Block.tickRule_eq]
  exact h

/-- Under ENGINE and TICK steps alone, a steady state starts a run without end. -/
theorem runFrom_runs {s : State} (h : Steady s.blk) {xs : Nat → Input} (vs : Nat → Bool)
    (hx : ∀ k, xs k = .engine ∨ xs k = .tick) : InfiniteRun (runFrom s xs vs) xs vs := by
  have h2 : ∀ {u : State} (k : Nat), Steady u.blk →
      ∃ t, step (u.feed (xs k) (vs k)) = .next t ∧ Steady t.blk := by
    intro u k hu
    rcases hx k with e | e <;> rw [e]
    · exact engine_steady hu _
    · exact tick_steady hu _
  have h1 : ∀ k, Steady (runFrom s xs vs k).blk := by
    intro k
    induction k with
    | zero => exact h
    | succ k ih =>
      obtain ⟨t, ht, hs⟩ := h2 k ih
      simpa only [runFrom, ht] using hs
  intro k
  obtain ⟨t, ht, -⟩ := h2 k (h1 k)
  simp only [runFrom, ht]

/-- ENGINE and TICK in turn: a weakly fair schedule. -/
def inTurn (k : Nat) : Input := if k % 2 = 0 then .engine else .tick

theorem inTurn_cases (k : Nat) : inTurn k = .engine ∨ inTurn k = .tick := by
  unfold inTurn; split <;> simp

theorem inTurn_fair : WeaklyFair inTurn :=
  ⟨fun n => ⟨2 * n, by omega, if_pos (by omega)⟩, fun n => ⟨2 * n + 1, by omega, if_neg (by omega)⟩⟩

theorem inTurn_no_reset (k : Nat) : inTurn k ≠ .reset := by rcases inTurn_cases k with h | h <;> simp [h]

/-- The state after READ from `idleB 1`. -/
def started : State := machine (startB 1 0) [] []

theorem steady_started : Steady started.blk := by unfold Steady; decide

/-- ENGINE and TICK in turn, with a RESET at step 2: HOST takes no step. -/
def quietInputs (k : Nat) : Input := if k = 2 then .reset else inTurn k

def quietRun : Nat → State := runFrom (machine (idleB 1) [] []) quietInputs (fun _ => true)

theorem witness_QuiescentRunsChangeNothing :
    Run quietRun quietInputs (fun _ => true) 5 ∧ Quiescent (quietRun 0) quietInputs ∧ (quietRun 0).blk.Inv ∧
    quietInputs 0 = .engine ∧ quietInputs 1 = .tick ∧ (∀ k, k < 2 → quietInputs k ≠ .reset) ∧
    quietInputs 2 = .reset ∧ (quietRun 2).blk = idleB 1 ∧ (quietRun 3).blk ≠ idleB 1 := by
  refine ⟨fun k hk => ?_, ⟨rfl, fun n => ?_⟩, inv_idleB, rfl, rfl, by decide, rfl, by decide, by decide⟩
  · interval_cases k <;> rfl
  · unfold quietInputs
    split
    · rfl
    · rcases inTurn_cases n with h | h <;> rw [h] <;> rfl

theorem witness_EveryTransactionEndsOrHangsInABitWait :
    InfiniteRun (runFrom started inTurn (fun _ => true)) inTurn (fun _ => true) ∧ WeaklyFair inTurn ∧
    (∀ k, inTurn k ≠ .reset) ∧ (machine (idleB 1) [] []).blk.Inv ∧ (machine (idleB 1) [] []).blk.state = 0#4 ∧
    (machine (idleB 1) [] []).blk.initialized = true ∧
    exec .wrRead (machine (idleB 1) [] []) = .next (runFrom started inTurn (fun _ => true) 0) :=
  ⟨runFrom_runs steady_started _ inTurn_cases, inTurn_fair, inTurn_no_reset, inv_idleB, rfl, rfl, rfl⟩

theorem witness_StartEndsInEveryFairRun :
    InfiniteRun (runFrom started inTurn (fun _ => true)) inTurn (fun _ => true) ∧ WeaklyFair inTurn ∧
    (∀ k, inTurn k ≠ .reset) ∧ (runFrom started inTurn (fun _ => true) 0).blk.Inv ∧
    (runFrom started inTurn (fun _ => true) 0).blk.state = 1#4 :=
  ⟨runFrom_runs steady_started _ inTurn_cases, inTurn_fair, inTurn_no_reset, inv_startB_0, rfl⟩

theorem inputCount_const (x : Input) (n : Nat) : inputCount x (fun _ => x) n = n := by
  induction n with
  | zero => rfl
  | succ n ih => simp [inputCount, ih]

/-- One tick short of the limit: all 19999 steps are ticks. -/
theorem witness_StartPulseLastsAtLeast20000Ticks :
    Run (runFrom started (fun _ => .tick) (fun _ => true)) (fun _ => .tick) (fun _ => true) 19999 ∧
    (machine (idleB 1) [] []).blk.state = 0#4 ∧ (machine (idleB 1) [] []).blk.initialized = true ∧
    exec .wrRead (machine (idleB 1) [] []) = .next (runFrom started (fun _ => .tick) (fun _ => true) 0) ∧
    (∀ k : Nat, k < 19999 → (fun _ : Nat => Input.tick) k ≠ .reset) ∧
    inputCount .tick (fun _ => .tick) 19999 < 20000 :=
  ⟨fun k _ => runFrom_runs steady_started _ (fun _ => .inr rfl) k, rfl, rfl, rfl, fun _ _ => by simp,
   by rw [inputCount_const]; omega⟩

/-- The second clause: a run that stays in START, here its first step. -/
theorem witness_StartPulse_in_start :
    Run (runFrom started (fun _ => .tick) (fun _ => true)) (fun _ => .tick) (fun _ => true) 1 ∧
    ∀ k, k ≤ 1 → (runFrom started (fun _ => .tick) (fun _ => true) k).blk.state = 1#4 := by
  refine ⟨fun k _ => runFrom_runs steady_started _ (fun _ => .inr rfl) k, fun k hk => ?_⟩
  interval_cases k <;> rfl

/-- Budget 1, one wrong sample: the phase fails on it; before it, the budget is whole. All three phases. -/
theorem witness_HandshakeBudgetIsExact :
    Run (runFrom (machine (ackB 1 2 1) [] []) (fun _ => .engine) (fun _ => true)) (fun _ => .engine) (fun _ => true) 1 ∧
    Run (runFrom (machine (ackB 1 3 1) [] []) (fun _ => .engine) (fun _ => false)) (fun _ => .engine)
      (fun _ => false) 1 ∧
    Run (runFrom (machine (ackB 1 4 1) [] []) (fun _ => .engine) (fun _ => true)) (fun _ => .engine) (fun _ => true) 1 ∧
    (ackB 1 2 1).Inv ∧ (ackB 1 3 1).Inv ∧ (ackB 1 4 1).Inv ∧ (ackB 1 2 1).polls = (ackB 1 2 1).actTimeout ∧
    inputCount .engine (fun _ => .engine) 0 < (ackB 1 2 1).actTimeout.toNat ∧
    inputCount .engine (fun _ => .engine) 1 = (ackB 1 2 1).actTimeout.toNat ∧
    inputCount .engine (fun _ => .engine) (1 - 1) < (ackB 1 2 1).actTimeout.toNat :=
  ⟨fun k _ => runFrom_runs (by unfold Steady; decide) _ (fun _ => .inl rfl) k,
   fun k _ => runFrom_runs (by unfold Steady; decide) _ (fun _ => .inl rfl) k,
   fun k _ => runFrom_runs (by unfold Steady; decide) _ (fun _ => .inl rfl) k, inv_ackA, inv_ackB, inv_ackC, rfl,
   by decide, by decide, by decide⟩

/-- The rise, then ticks while the line stays high. -/
def riseThenTicks (k : Nat) : Input := if k = 0 then .engine else .tick

theorem witness_PulseWidthCountsTheTicks :
    Run (runFrom (machine (bitHighB 0) [] []) riseThenTicks (fun _ => true)) riseThenTicks (fun _ => true) 3 ∧
    (bitHighB 0).Inv ∧ riseThenTicks 0 = .engine ∧
    ∀ k, 1 ≤ k → k ≤ 3 →
      (runFrom (machine (bitHighB 0) [] []) riseThenTicks (fun _ => true) k).blk.state = 6#4 := by
  refine ⟨fun k _ => runFrom_runs (by unfold Steady; decide) _ (fun k => ?_) k, inv_bitHigh, rfl, fun k h1 h2 => ?_⟩
  · unfold riseThenTicks; split <;> simp
  · interval_cases k <;> rfl

theorem witness_UnboundedBitWaitsOutlastEveryHostCommand :
    (Run (runFrom (machine (bitHighB 0) [] []) inTurn (fun _ => false)) inTurn (fun _ => false) 9 ∧
      (machine (bitHighB 0) [] []).blk.state = 5#4) ∧
    (Run (runFrom (machine (bitLowB 0 0 0) [] []) inTurn (fun _ => true)) inTurn (fun _ => true) 9 ∧
      (machine (bitLowB 0 0 0) [] []).blk.state = 6#4) ∧ ∀ k, inTurn k ≠ .reset :=
  ⟨⟨fun k _ => runFrom_runs (by unfold Steady; decide) _ inTurn_cases k, rfl⟩,
   ⟨fun k _ => runFrom_runs (by unfold Steady; decide) _ inTurn_cases k, rfl⟩, inTurn_no_reset⟩

/-- The line that answers 0 at even steps and 1 at odd ones. -/
def zeroFirst (k : Nat) : Bool := decide (k % 2 = 1)

/-- The run of a transaction in which every wait sees its level at once, from ACK_A on. -/
def smooth : Nat → State := runFrom (machine (ackB 1 2 1) [] []) (fun _ => .engine) zeroFirst

theorem smooth_runs : InfiniteRun smooth (fun _ => .engine) zeroFirst :=
  runFrom_runs (by unfold Steady; decide) _ (fun _ => .inl rfl)

/-- Where the smooth run stands after `k` steps. -/
def SmoothAt (k : Nat) (b : Block) : Prop :=
  b.state ≠ 1 ∧ (b.state = 2 → k = 0) ∧ (b.state = 3 → k = 1) ∧ (b.state = 4 → k = 2) ∧
    (b.state = 5 → k % 2 = 1) ∧ (b.state = 6 → k % 2 = 0)

theorem smoothAt_of_other {k : Nat} {b : Block} (h : b.state = 0 ∨ b.state = 7 ∨ b.state = 8 ∨ b.state = 9) :
    SmoothAt k b := by
  rcases h with h | h | h | h <;> simp [SmoothAt, h]

theorem smooth_at (k : Nat) : SmoothAt k (smooth k).blk := by
  induction k with
  | zero => exact ⟨by decide, fun _ => rfl, by decide, by decide, by decide, by decide⟩
  | succ k ih =>
    obtain ⟨i, hi, e⟩ := step_feed_engine_next (smooth_runs k)
    obtain ⟨h1, h2, h3, h4, h5, h6⟩ := ih
    have hle : (smooth k).blk.state.toNat ≤ 9 := by
      have : ∀ c : Code, ¬ c.toNat ≤ 9 → okInstr (decode (.engineState c)) = none := by decide
      by_contra hc
      simpa [hi, okInstr] using this _ hc
    rw [e]
    rcases code_cases _ hle with hs | hs | hs | hs | hs | hs | hs | hs | hs | hs <;> rw [hs] at hi <;> cases hi
    · exact smoothAt_of_other (.inl hs)
    · exact absurd hs h1
    · have := h2 hs; subst this
      simp [SmoothAt, blockEffect, Block.ackARule, Block.await, zeroFirst]
    · have := h3 hs; subst this
      simp [SmoothAt, blockEffect, Block.ackBRule, Block.await, zeroFirst]
    · have := h4 hs; subst this
      simp [SmoothAt, blockEffect, Block.ackCRule, Block.await, zeroFirst]
    · have := h5 hs
      have hv : zeroFirst k = true := by simp [zeroFirst, this]
      simp [SmoothAt, blockEffect, hv, Block.bitHighRule_hw]; omega
    · have := h6 hs
      have hv : zeroFirst k = false := by simp [zeroFirst, this]
      simp only [blockEffect, hv, Block.bitLowRule_hw, Bool.false_eq_true, if_false]
      rcases ((smooth k).blk.takeBit Config.hw).nextBit_cases with ⟨-, e2⟩ | ⟨-, e2⟩ <;> rw [e2]
      · exact smoothAt_of_other (.inr (.inl rfl))
      · simp [SmoothAt]; omega
    · simp only [blockEffect]
      rcases (smooth k).blk.checkRule_cases with ⟨-, e2⟩ | ⟨-, e2⟩ <;> rw [e2]
      · exact smoothAt_of_other (.inr (.inr (.inl rfl)))
      · exact smoothAt_of_other (.inr (.inr (.inr rfl)))
    · exact smoothAt_of_other (.inl rfl)
    · exact smoothAt_of_other (.inl rfl)

theorem samplesSeen_zero {v : Bool} {xs : Nat → Input} {vs : Nat → Bool} {a len : Nat}
    (h : ∀ k, k < len → vs (a + k) ≠ v) : samplesSeen v xs vs a len = 0 := by
  induction len with
  | zero => rfl
  | succ n ih =>
    have h1 := ih (fun k hk => h k (by omega))
    have h2 := h n (by omega)
    simp [samplesSeen, h1, h2]

/-- Budget 1, K = 1 and 85 ENGINE steps: exactly the bound. -/
theorem witness_ResponsiveLineBoundsTheTransaction :
    Run smooth (fun _ => .engine) zeroFirst 85 ∧ (smooth 0).blk.Inv ∧ (smooth 0).blk.state = 2#4 ∧
    (smooth 0).blk.polls = (smooth 0).blk.actTimeout ∧ Responsive smooth (fun _ => .engine) zeroFirst 1 85 ∧
    3 * (smooth 0).blk.actTimeout.toNat + 80 * 1 + 2 ≤ inputCount .engine (fun _ => .engine) 85 := by
  refine ⟨fun k _ => smooth_runs k, inv_ackA, rfl, rfl, fun a len _ => ⟨fun h => ?_, fun h => ?_⟩, by decide⟩
  · rw [samplesSeen_zero]; · decide
    intro k hk
    have := (smooth_at (a + k)).2.2.2.2.1 (h k hk)
    simp [zeroFirst, this]
  · rw [samplesSeen_zero]; · decide
    intro k hk
    have := (smooth_at (a + k)).2.2.2.2.2 (h k hk)
    simp [zeroFirst, this]

/-- The line that answers 1 at even steps and 0 at odd ones. -/
def oneFirst (k : Nat) : Bool := decide (k % 2 = 0)

/-- The run that takes the 40 bits of a transaction, from its first BIT_HIGH on. -/
def bits : Nat → State := runFrom (machine (bitHighB 0) [] []) (fun _ => .engine) oneFirst

theorem bits_runs : InfiniteRun bits (fun _ => .engine) oneFirst :=
  runFrom_runs (by unfold Steady; decide) _ (fun _ => .inl rfl)

theorem bits_at (k : Nat) (hk : k ≤ 80) :
    (k < 80 → (bits k).blk.bitidx.toNat = k / 2 ∧ (bits k).blk.state = if k % 2 = 0 then 5 else 6) ∧
    (k = 80 → (bits k).blk.state = 7) := by
  induction k with
  | zero => exact ⟨fun _ => ⟨by decide, rfl⟩, fun h => by omega⟩
  | succ k ih =>
    obtain ⟨i, hi, e⟩ := step_feed_engine_next (bits_runs k)
    obtain ⟨h1, h2⟩ := (ih (by omega)).1 (by omega)
    rw [e]
    rcases Nat.mod_two_eq_zero_or_one k with hp | hp
    · rw [if_pos hp] at h2
      rw [h2] at hi; cases hi
      have hv : oneFirst k = true := by simp [oneFirst, hp]
      have h3 : (k + 1) % 2 ≠ 0 := by omega
      simp only [blockEffect, hv, Block.bitHighRule_hw, if_true, h3, if_false]
      refine ⟨fun _ => ⟨?_, rfl⟩, fun h => by omega⟩
      simp only [Block.goto_bitidx, Block.startTimer_bitidx]
      omega
    · have h3 : ¬ k % 2 = 0 := by omega
      rw [if_neg h3] at h2
      rw [h2] at hi; cases hi
      have hv : oneFirst k = false := by simp [oneFirst, hp]
      have h4 : (k + 1) % 2 = 0 := by omega
      have h5 : ((bits k).blk.bitidx + 1).toNat = (bits k).blk.bitidx.toNat + 1 := by
        rw [BitVec.toNat_add_of_lt] <;> simp; omega
      simp only [blockEffect, hv, Block.bitLowRule_hw, Bool.false_eq_true, if_false, h4, if_true]
      rcases ((bits k).blk.takeBit Config.hw).nextBit_cases with ⟨h6, e2⟩ | ⟨h6, e2⟩ <;> rw [e2]
      · have h7 : ((bits k).blk.bitidx + 1).toNat = 40 := by
          have := congrArg BitVec.toNat h6; simpa using this
        exact ⟨fun h => by omega, fun _ => rfl⟩
      · refine ⟨fun _ => ⟨?_, rfl⟩, fun h => ?_⟩
        · simp only [Block.goto_bitidx, Block.resetTimer_bitidx, Block.takeBit_bitidx]
          omega
        · exfalso; apply h6; apply BitVec.eq_of_toNat_eq
          simp only [Block.takeBit_bitidx, h5]
          have : nbits.toNat = 40 := rfl
          omega

theorem witness_AcquiredBufferIsTheClassifiedPulses :
    Run bits (fun _ => .engine) oneFirst 80 ∧ (bits 0).blk.Inv ∧ 1 ≤ (bits 0).blk.state.toNat ∧
    (bits 0).blk.state.toNat ≤ 5 ∧ (bits 0).blk.bitidx = 0 ∧ (∀ k, k ≤ 80 → (bits k).blk.state ≠ 0#4) ∧
    (bits 80).blk.state = 7#4 := by
  refine ⟨fun k _ => bits_runs k, inv_bitHigh, by decide, by decide, rfl, fun k hk => ?_,
    (bits_at 80 (by omega)).2 rfl⟩
  rcases Nat.lt_or_ge k 80 with h | h
  · rw [((bits_at k hk).1 h).2]; split <;> decide
  · rw [(bits_at k hk).2 (by omega)]; decide

end Sys2Proof.Tests
end

/-! The invariant of 10_state.md R39 holds at reset and every step keeps it, so every reachable state meets it;
and the IDLE step of R48. -/

namespace Sys2Proof.Machine

/-! ### What the invariant says of a transaction, and of IDLE -/

/-- What the invariant says of a block whose STATE is not IDLE, the same in every phase of a transaction. -/
structure Block.Transacting (b : Block) : Prop where
  initialized : b.initialized = true
  latched : b.actTimeout ≠ 0
  noResult : b.result = Res.none
  invalid : b.valid = false
  noData0 : b.data0 = 0
  noData1 : b.data1 = 0
  bitsBounded : b.bitidx.toNat ≤ 40
  delayBounded : b.dly.toNat ≤ startLowTicks.toNat

/-- The phases of a transaction, each with what the invariant says of the elements that depend on STATE. -/
inductive Block.Phase (b : Block) : Prop where
  | start (hs : b.state = St.start) (hrun : b.run = false) (hpend : b.pend = Res.none) (hoe : b.lineOe = true)
      (hout : b.lineOut = false) (hempty : b.bitidx = 0 ∧ b.shift = 0)
  | handshake (hs : b.inHandshake) (hrun : b.run = false) (hpend : b.pend = Res.none) (hoe : b.lineOe = false)
      (hempty : b.bitidx = 0 ∧ b.shift = 0) (hbudget : 1 ≤ b.polls.toNat ∧ b.polls.toNat ≤ b.actTimeout.toNat)
  | bitHigh (hs : b.state = St.bitHigh) (hrun : b.run = false) (hpend : b.pend = Res.none) (hoe : b.lineOe = false)
      (hcnt : b.cnt = 0) (hbits : b.bitidx.toNat < 40)
  | bitLow (hs : b.state = St.bitLow) (hrun : b.run = true) (hpend : b.pend = Res.none) (hoe : b.lineOe = false)
      (hbits : b.bitidx.toNat < 40)
  | check (hs : b.state = St.check) (hrun : b.run = false) (hpend : b.pend = Res.none) (hoe : b.lineOe = false)
      (hbits : b.bitidx = nbits)
  | done (hs : b.state = St.done) (hrun : b.run = false) (hpend : b.pend = Res.none) (hoe : b.lineOe = false)
      (hbits : b.bitidx = nbits) (hsum : checksumOk b.shift = true)
  | timedOut (hs : b.state = St.error) (hrun : b.run = false) (hpend : b.pend = Res.rdTimeout)
      (hoe : b.lineOe = false) (hempty : b.bitidx = 0 ∧ b.shift = 0)
  | badChecksum (hs : b.state = St.error) (hrun : b.run = false) (hpend : b.pend = Res.rdChecksum)
      (hoe : b.lineOe = false) (hbits : b.bitidx = nbits)

/-- A transaction in one of its phases meets the invariant: every clause about another STATE is void. -/
theorem Block.Transacting.inv {b : Block} (ht : b.Transacting) (hp : b.Phase) : b.Inv := by
  obtain ⟨hinit, hact, hres, hval, hd0, hd1, hbit, hdly⟩ := ht
  rcases hp with _ | ⟨hs | hs | hs⟩ | _ | _ | _ | _ | _ | _ <;> (constructor; constructor) <;>
    simp_all [Block.busy, Block.inHandshake]

/-- What the invariant says of an IDLE block. -/
structure Block.Resting (b : Block) : Prop where
  idle : b.state = St.idle
  timerOff : b.run = false
  nothingPending : b.pend = Res.none
  bitsBounded : b.bitidx.toNat ≤ 40
  delayBounded : b.dly.toNat ≤ startLowTicks.toNat
  configured : b.initialized = true → b.actTimeout ≠ 0 ∧ b.lineOe = true ∧ b.lineOut = true
  legalResult : b.result.toNat ≤ 7
  validReading : b.valid = true → b.result = Res.ok ∧ checksumOk b.reading = true
  noReading : b.valid = false → b.data0 = 0 ∧ b.data1 = 0
  timeoutReported : b.result = Res.rdTimeout → b.bitidx = 0 ∧ b.shift = 0
  checksumReported : b.result = Res.rdChecksum → b.bitidx = nbits ∧ b.shift = 0
  data1High : b.data1.toNat < 256

/-- An IDLE block at rest meets the invariant. -/
theorem Block.Resting.inv {b : Block} (h : b.Resting) : b.Inv := by
  obtain ⟨hs, hrun, hpend, hbit, hdly, hcfg, hres, hval, hno, hto, hck, hhigh⟩ := h
  (constructor; constructor) <;> simp_all [Block.busy, Block.inHandshake]

namespace Block.Inv

variable {b : Block} (h : b.Inv)
include h

theorem run_off (hs : b.state ≠ St.bitLow) : b.run = false := by
  simpa using mt h.item3.1 hs

theorem nothing_pending (hs : b.state ≠ St.error) : b.pend = Res.none := by
  simpa using mt h.item7.1 hs

theorem transacting (hs : b.state ≠ St.idle) : b.Transacting := by
  have hbusy := b.busy_iff.2 hs
  have hval : b.valid = false := by simpa using mt h.item8 (fun hc => hs hc.1)
  obtain ⟨hd0, hd1⟩ := h.item9 hval
  obtain ⟨hinit, hact⟩ := h.item11 hbusy
  exact ⟨hinit, hact, h.busyResult hbusy, hval, hd0, hd1, h.item2, h.item10⟩

theorem resting (hs : b.state = St.idle) : b.Resting where
  idle := hs
  timerOff := h.run_off (by simp [hs])
  nothingPending := h.nothing_pending (by simp [hs])
  bitsBounded := h.item2
  delayBounded := h.item10
  configured hi := ⟨h.latched hi, h.item6 hs hi⟩
  legalResult := h.legalResult
  validReading hv := (h.item8 hv).2
  noReading := h.item9
  timeoutReported := h.timeoutReported
  checksumReported := h.checksumReported
  data1High := h.data1High

end Block.Inv

/-! ### The host's writes keep the invariant -/

theorem Block.reset_resting : Block.reset.Resting := by
  constructor <;> decide

theorem Block.Inv.storeConfig {b : Block} (h : b.Inv) (data : Word) : (b.storeConfig data).Inv := { h with }

theorem Block.Inv.storeTimeout {b : Block} (h : b.Inv) (data : Word) : (b.storeTimeout data).Inv := { h with }

/-- A command keeps the invariant if its rule does from IDLE: a busy block ignores it (R112). -/
theorem Block.Inv.command {b : Block} {rule : Block → Block} (h : b.Inv) (hr : b.Resting → (rule b).Inv) :
    (b.command rule).Inv := by
  cases hb : b.busy
  · rw [Block.command_idle hb]
    exact hr (h.resting (b.not_busy_iff.1 hb))
  · rwa [Block.command_busy hb]

/-- A command that fails leaves a block at rest with no configuration and no reading, and reports its code. -/
theorem Block.Resting.configError {b : Block} (h : b.Resting) {c : Code} (hlegal : c.toNat ≤ 7)
    (hc : c ≠ Res.rdTimeout ∧ c ≠ Res.rdChecksum) : (b.clearReading.configError c).Resting :=
  { h with
    configured := by simp
    legalResult := hlegal
    validReading := by simp
    noReading := by simp
    timeoutReported := fun he => absurd he hc.1
    checksumReported := fun he => absurd he hc.2
    data1High := by simp }

theorem Block.Resting.configure {b : Block} (h : b.Resting) (h0 : b.timeout ≠ 0) :
    b.clearReading.configure.Resting :=
  { h with
    timerOff := rfl
    configured := fun _ => ⟨h0, rfl, rfl⟩
    legalResult := by simp
    validReading := by simp
    noReading := by simp
    timeoutReported := by simp
    checksumReported := by simp
    data1High := by simp }

/-- INIT: every outcome of the validation leaves a block at rest (R113). -/
theorem Block.Resting.validated {b : Block} (h : b.Resting) (p : Params) :
    (b.clearReading.validateAndConfigure p).Resting := by
  rcases Block.validateAndConfigure_cases p b.clearReading with
    ⟨-, e⟩ | ⟨-, -, e⟩ | ⟨-, -, -, e⟩ | ⟨-, -, h0, e⟩ <;> rw [e]
  · exact h.configError (by decide) (by decide)
  · exact h.configError (by decide) (by decide)
  · exact h.configError (by decide) (by decide)
  · exact h.configure h0

/-- READ: refused in IDLE (R114), or accepted into START (R115). -/
theorem Block.Resting.startRead {b : Block} (h : b.Resting) : b.startRead.Inv := by
  rcases b.startRead_cases with ⟨hi, e⟩ | ⟨hi, e⟩ <;> rw [e]
  · have refused : b.clearReading.setResult Res.rdNotInit = b.clearReading.configError Res.rdNotInit := by
      simp [Block.setResult, Block.configError, Block.clearReading, hi]
    rw [refused]
    exact (h.configError (by decide) (by decide)).inv
  · have ht : b.clearReading.beginStart.Transacting :=
      ⟨hi, (h.configured hi).1, rfl, rfl, rfl, rfl, by simp, by simp⟩
    exact ht.inv (.start rfl rfl rfl rfl rfl ⟨rfl, rfl⟩)

/-! ### The ENGINE's rules keep the invariant -/

/-- A fresh budget is one that a handshake phase may start with (R141, R144, R145). -/
theorem Block.Transacting.freshBudget {b : Block} (h : b.Transacting) :
    1 ≤ b.actTimeout.toNat ∧ b.actTimeout.toNat ≤ b.actTimeout.toNat := by
  have hne : b.actTimeout.toNat ≠ 0 := fun he => h.latched (BitVec.eq_of_toNat_eq he)
  omega

theorem Block.Inv.startRule {b : Block} (h : b.Inv) (hs : b.state = St.start) : b.startRule.Inv := by
  rcases b.startRule_cases with ⟨-, e⟩ | ⟨-, e⟩ <;> rw [e]
  · have ht := h.transacting (by simp [hs])
    have ht' : ((b.releaseLine.loadPolls b.actTimeout).goto St.ackA).Transacting := { ht with }
    exact ht'.inv (.handshake (.inl rfl) (h.run_off (by simp [hs])) (h.nothing_pending (by simp [hs])) rfl
      (h.emptyBuffer (.inl hs)) ht.freshBudget)
  · exact h

section
variable {b : Block} (h : b.Inv) (hs : b.inHandshake)
include h hs

theorem Block.Inv.handshake_facts :
    b.Transacting ∧ b.run = false ∧ b.pend = Res.none ∧ b.lineOe = false ∧ b.bitidx = 0 ∧ b.shift = 0 := by
  have hne : b.state ≠ St.idle ∧ b.state ≠ St.bitLow ∧ b.state ≠ St.error := by
    rcases hs with e | e | e <;> simp [e]
  exact ⟨h.transacting hne.1, h.run_off hne.2.1, h.nothing_pending hne.2.2, h.item5 (.inl hs),
    h.emptyBuffer (.inr hs)⟩

/-- A wrong sample spends one poll of a budget that is not empty, or ends the phase in ERROR (R143). -/
theorem Block.Inv.missedPoll : b.missedPoll.Inv := by
  obtain ⟨ht, hrun, hpend, hoe, hempty⟩ := h.handshake_facts hs
  obtain ⟨hlow, hhigh⟩ := h.budget hs
  rcases b.missedPoll_cases with ⟨-, e⟩ | ⟨hne, e⟩ <;> rw [e]
  · have ht' : (b.spendPoll.fail Res.rdTimeout).Transacting := { ht with }
    exact ht'.inv (.timedOut rfl hrun rfl hoe hempty)
  · have ht' : b.spendPoll.Transacting := { ht with }
    have hspent : (b.polls - 1).toNat = b.polls.toNat - 1 := BitVec.toNat_sub_of_le hlow
    have hleft : (b.polls - 1).toNat ≠ 0 := fun he => hne (BitVec.eq_of_toNat_eq he)
    have hbudget : 1 ≤ (b.polls - 1).toNat ∧ (b.polls - 1).toNat ≤ b.actTimeout.toNat := by omega
    exact ht'.inv (.handshake hs hrun hpend hoe hempty hbudget)

/-- A wait keeps the invariant if entering the next phase does (R143). -/
theorem Block.Inv.await {level : Bool} {next : Code} {entry : Block → Block} (v : Bool)
    (hnext : ((entry b).goto next).Inv) : (Block.await level next entry v b).Inv := by
  rcases Block.await_cases level next entry v b with ⟨-, e⟩ | ⟨-, e⟩ <;> rw [e]
  · exact hnext
  · exact h.missedPoll hs

/-- The next handshake phase starts with a fresh budget (R144, R145). -/
theorem Block.Inv.nextHandshake {st : Code} (hst : ((b.loadPolls b.actTimeout).goto st).inHandshake) :
    ((b.loadPolls b.actTimeout).goto st).Inv := by
  obtain ⟨ht, hrun, hpend, hoe, hempty⟩ := h.handshake_facts hs
  have ht' : ((b.loadPolls b.actTimeout).goto st).Transacting := { ht with }
  exact ht'.inv (.handshake hst hrun hpend hoe hempty ht.freshBudget)

/-- The first bit starts with the counter at 0 (R146). -/
theorem Block.Inv.firstBit : (b.resetTimer.goto St.bitHigh).Inv := by
  obtain ⟨ht, hrun, hpend, hoe, hidx, -⟩ := h.handshake_facts hs
  have ht' : (b.resetTimer.goto St.bitHigh).Transacting := { ht with }
  exact ht'.inv (.bitHigh rfl hrun hpend hoe rfl (by simp [hidx]))

end

theorem Block.Inv.ackARule {b : Block} (h : b.Inv) (hs : b.state = St.ackA) (v : Bool) : (b.ackARule v).Inv :=
  h.await (.inl hs) v (h.nextHandshake (.inl hs) (.inr (.inl rfl)))

theorem Block.Inv.ackBRule {b : Block} (h : b.Inv) (hs : b.state = St.ackB) (v : Bool) : (b.ackBRule v).Inv :=
  h.await (.inr (.inl hs)) v (h.nextHandshake (.inr (.inl hs)) (.inr (.inr rfl)))

theorem Block.Inv.ackCRule {b : Block} (h : b.Inv) (hs : b.state = St.ackC) (v : Bool) :
    (Block.ackCRule Config.hw v b).Inv :=
  h.await (.inr (.inr hs)) v (h.firstBit (.inr (.inr hs)))

theorem Block.Inv.bitHighRule {b : Block} (h : b.Inv) (hs : b.state = St.bitHigh) (v : Bool) :
    (Block.bitHighRule Config.hw v b).Inv := by
  rw [Block.bitHighRule_hw]
  cases v
  · exact h
  · have ht' : (b.startTimer.goto St.bitLow).Transacting := { h.transacting (by simp [hs]) with }
    exact ht'.inv (.bitLow rfl rfl (h.nothing_pending (by simp [hs])) (h.item5 (by simp [hs]))
      (h.bitsMissing (.inl hs)))

theorem Block.Inv.bitLowRule {b : Block} (h : b.Inv) (hs : b.state = St.bitLow) (v : Bool) :
    (Block.bitLowRule Config.hw v b).Inv := by
  rw [Block.bitLowRule_hw]
  cases v
  case true => exact h
  have hbit := h.bitsMissing (.inr hs)
  have hcount : (b.bitidx + 1).toNat = b.bitidx.toNat + 1 := by bv_omega
  have hpend := h.nothing_pending (by simp [hs])
  have hoe := h.item5 (by simp [hs])
  have ht : (b.takeBit Config.hw).Transacting :=
    { h.transacting (by simp [hs]) with bitsBounded := hcount.trans_le hbit }
  rcases (b.takeBit Config.hw).nextBit_cases with ⟨hall, e⟩ | ⟨hmore, e⟩ <;>
    simp only [e, Bool.false_eq_true, if_false]
  · have ht' : ((b.takeBit Config.hw).goto St.check).Transacting := { ht with }
    exact ht'.inv (.check rfl rfl hpend hoe hall)
  · have ht' : ((b.takeBit Config.hw).resetTimer.goto St.bitHigh).Transacting := { ht with }
    have hne : (b.bitidx + 1).toNat ≠ 40 := fun he => hmore (BitVec.eq_of_toNat_eq he)
    have hleft : (b.bitidx + 1).toNat < 40 := by omega
    exact ht'.inv (.bitHigh rfl rfl hpend hoe rfl hleft)

/-- CHECK leads to DONE with a matching checksum, else to ERROR (R182). -/
theorem Block.Inv.checkRule {b : Block} (h : b.Inv) (hs : b.state = St.check) : b.checkRule.Inv := by
  have ht := h.transacting (by simp [hs])
  have hrun := h.run_off (by simp [hs])
  have hoe := h.item5 (by simp [hs])
  rcases b.checkRule_cases with ⟨hsum, e⟩ | ⟨-, e⟩ <;> rw [e]
  · have ht' : (b.goto St.done).Transacting := { ht with }
    exact ht'.inv (.done rfl hrun (h.nothing_pending (by simp [hs])) hoe (h.allBits (.inl hs)) hsum)
  · have ht' : (b.fail Res.rdChecksum).Transacting := { ht with }
    exact ht'.inv (.badChecksum rfl hrun rfl hoe (h.allBits (.inl hs)))

/-- DONE publishes the buffer, whose checksum matches (R183). -/
theorem Block.Inv.doneRule {b : Block} (h : b.Inv) (hs : b.state = St.done) : b.doneRule.Resting where
  idle := rfl
  timerOff := h.run_off (by simp [hs])
  nothingPending := h.nothing_pending (by simp [hs])
  bitsBounded := h.item2
  delayBounded := h.item10
  configured hi := ⟨h.latched hi, rfl, rfl⟩
  legalResult := by simp
  validReading _ := ⟨rfl, by rw [Block.reading_doneRule]; exact h.checked hs⟩
  noReading := by simp
  timeoutReported := by simp
  checksumReported := by simp
  data1High := readingHigh_lt b.shift

/-- ERROR reports the code pending and empties the buffer (R184). -/
theorem Block.Inv.endError {b : Block} (h : b.Inv) (hs : b.state = St.error) : b.endError.Resting where
  idle := rfl
  timerOff := rfl
  nothingPending := rfl
  bitsBounded := h.item2
  delayBounded := h.item10
  configured hi := ⟨h.latched hi, rfl, rfl⟩
  legalResult := by rcases h.legalPend with e | e | e <;> simp [e]
  validReading hv := by simp [(h.transacting (by simp [hs])).invalid] at hv
  noReading := h.item9
  timeoutReported he := ⟨(h.timeoutPending he).1, rfl⟩
  checksumReported he := ⟨h.checksumPending he, rfl⟩
  data1High := h.data1High

/-! ### A tick keeps the invariant -/

/-- The delay saturates at START_LOW_TICKS (R161). -/
theorem Block.tickRule_delay_le {b : Block} (h : b.dly.toNat ≤ startLowTicks.toNat) :
    b.tickRule.dly.toNat ≤ startLowTicks.toNat := by
  simp only [Block.tickRule_eq]
  split
  next hlt =>
    have hlt := hlt.2
    bv_omega
  next => exact h

/-- CNT moves in BIT_LOW alone, so BIT_HIGH keeps it at 0 (R161). -/
theorem Block.Inv.tickRule {b : Block} (h : b.Inv) : b.tickRule.Inv := by
  have hdly := Block.tickRule_delay_le h.item10
  have hcnt : b.state = St.bitHigh → b.tickRule.cnt = 0 := fun hs => by
    simp [Block.tickRule_eq, h.run_off, hs, h.freshCount]
  rw [Block.tickRule_eq] at hdly hcnt ⊢
  exact { h with item10 := hdly, freshCount := hcnt }

/-! ### Every step keeps the invariant -/

/-- An instruction keeps the invariant; an ENGINE rule does so in the STATE that selects it. -/
theorem Block.Inv.blockEffect {b : Block} (h : b.Inv) {i : Instr} (v : Bool)
    (hi : ∀ c, encode i = .engineState c → c = b.state) : (blockEffect i v b).Inv := by
  cases i with
  | wrInit => exact h.command fun hr => (hr.validated Config.hw).inv
  | wrRead => exact h.command fun hr => hr.startRead
  | wrConfig data => exact h.storeConfig data
  | wrTimeout data => exact h.storeTimeout data
  | stepStart => exact h.startRule (hi _ rfl).symm
  | stepAckA => exact h.ackARule (hi _ rfl).symm v
  | stepAckB => exact h.ackBRule (hi _ rfl).symm v
  | stepAckC => exact h.ackCRule (hi _ rfl).symm v
  | stepBitHigh => exact h.bitHighRule (hi _ rfl).symm v
  | stepBitLow => exact h.bitLowRule (hi _ rfl).symm v
  | stepCheck => exact h.checkRule (hi _ rfl).symm
  | stepDone => exact (h.doneRule (hi _ rfl).symm).inv
  | stepError => exact (h.endError (hi _ rfl).symm).inv
  | tick => exact h.tickRule
  | reset => exact Block.reset_resting.inv
  | rdCtrl | rdStatus | rdConfig | rdTimeout | rdData0 | rdData1 | rdRsvd | wrNop | wrCmdRsvd | wrStatus
  | wrData0 | wrData1 | wrRsvd | misaligned01 | misaligned10 | misaligned11 | stepIdle => exact h

theorem step_keeps_inv {s t : State} (h : s.blk.Inv) (hst : step s = .next t) : t.blk.Inv := by
  obtain ⟨raw, i, hfetch, hdec, hexec⟩ := step_next hst
  rw [(exec_next hexec).1]
  exact h.blockEffect _ fun _ hc => (fetched_engine hfetch hdec hc).2

theorem Reachable.inv {s : State} (h : Reachable s) : s.blk.Inv := by
  induction h with
  | reset => exact Block.reset_resting.inv
  | step s t x v _ hst ih => exact step_keeps_inv (s := s.feed x v) ih hst

/-- Settles O58: R39 is part of an invariant that holds at reset and that every step keeps. -/
theorem reachableStatesSatisfyR39 : Obligations.ReachableStatesSatisfyR39 :=
  fun _ h => h.inv.toR39

/-- Settles O24: the IDLE step is R48's skip. -/
theorem idleStepChangesNothing : Obligations.IdleStepChangesNothing :=
  fun _ => rfl

end Sys2Proof.Machine

/-! The host's interface (40_host_interface.md): what each register read returns, what each register write stores,
and what INIT and READ do. -/

namespace Sys2Proof.Machine

/-! ### The fields of the words read -/

section
variable (b : Block)

/-- The one-bit fields of STATUS (30_encoding.md R83). -/
theorem Block.statusWord_flags :
    b.statusWord.getLsbD 0 = b.busy ∧ b.statusWord.getLsbD 1 = b.initialized ∧
    b.statusWord.getLsbD 2 = b.valid ∧ b.statusWord.getLsbD 3 = false := by
  simp only [Block.statusWord, BitVec.getLsbD_setWidth, BitVec.getLsbD_append]
  simp

/-- STATUS from bit 4 up is BIT_INDEX, STATE and RESULT (30_encoding.md R83). -/
theorem Block.statusWord_codes (start len : Nat) (h : start + len ≤ 28) :
    b.statusWord.extractLsb' (start + 4) len = (b.bitidx ++ b.state ++ b.result).extractLsb' start len := by
  rw [Block.statusWord, BitVec.extractLsb'_setWidth_of_le (by omega)]
  iterate 4 rw [BitVec.extractLsb'_append_eq_of_le (by omega)]
  rfl

theorem Block.statusWord_result : b.statusWord.extractLsb' 4 4 = b.result :=
  (b.statusWord_codes 0 4 (by decide)).trans BitVec.extractLsb'_append_eq_right

theorem Block.statusWord_state : b.statusWord.extractLsb' 8 4 = b.state := by
  rw [b.statusWord_codes 4 4 (by decide), BitVec.extractLsb'_append_eq_of_le (by decide)]
  exact BitVec.extractLsb'_append_eq_right

theorem Block.statusWord_bitidx : b.statusWord.extractLsb' 12 6 = b.bitidx := by
  rw [b.statusWord_codes 8 6 (by decide), BitVec.extractLsb'_append_eq_of_le (by decide)]
  exact BitVec.extractLsb'_append_eq_left

theorem Block.statusWord_above : b.statusWord.extractLsb' 18 14 = 0 := by
  apply BitVec.eq_of_getLsbD_eq
  intro i hi
  simp [Block.statusWord]

theorem Block.configWord_pin : b.configWord.extractLsb' 0 8 = b.cfgPin := by
  rw [Block.configWord, BitVec.extractLsb'_setWidth_of_le (by decide), BitVec.extractLsb'_append_eq_right]

theorem Block.configWord_timer : b.configWord.extractLsb' 8 8 = b.cfgTimer := by
  rw [Block.configWord, BitVec.extractLsb'_setWidth_of_le (by decide), BitVec.extractLsb'_append_eq_left]

theorem Block.configWord_above : b.configWord.extractLsb' 16 16 = 0 := by
  apply BitVec.eq_of_getLsbD_eq
  intro i hi
  simp [Block.configWord]

/-- CONFIG reads back DATA[15:0] of the last write (40_host_interface.md R104, R109). -/
theorem Block.configWord_storeConfig (data : Word) : (b.storeConfig data).configWord = data &&& 0xFFFF#32 := by
  have hfields : timerField data ++ pinField data = data.extractLsb' 0 16 :=
    BitVec.extractLsb'_append_extractLsb'_eq_extractLsb' rfl
  rw [Block.configWord, Block.storeConfig_cfgTimer, Block.storeConfig_cfgPin, hfields]
  apply BitVec.eq_of_toNat_eq
  have hlow : data.toNat % 2 ^ 16 < 2 ^ 32 := by omega
  simpa [Nat.and_two_pow_sub_one_eq_mod _ 16] using hlow

end

/-- DATA1[31:8] is res0 (10_state.md R34). -/
theorem Block.Inv.data1_above {b : Block} (h : b.Inv) : b.data1.extractLsb' 8 24 = 0 := by
  apply BitVec.eq_of_toNat_eq
  simp [BitVec.extractLsb'_toNat, Nat.shiftRight_eq_div_pow, Nat.div_eq_of_lt h.data1High]

/-! ### The command dispatch (R112) -/

theorem State.command_idle {s : State} (h : s.blk.state = St.idle) (rule : Block → Block) :
    s.blockStep (Block.command rule) = .next (s.setBlk (rule s.blk)) := by
  rw [State.blockStep, Block.command_idle (s.blk.not_busy_iff.2 h)]

theorem State.command_busy {s : State} (h : s.blk.state ≠ St.idle) (rule : Block → Block) :
    s.blockStep (Block.command rule) = .next s := by
  rw [State.blockStep, Block.command_busy (s.blk.busy_iff.2 h)]
  rfl

theorem State.command_id (s : State) : s.blockStep (Block.command id) = .next s := by
  rw [State.blockStep, Block.command_id]
  rfl

/-- An accepted INIT clears the reading, then validates the configuration (R113). -/
theorem exec_wrInit_idle {s : State} (h : s.blk.state = St.idle) :
    exec .wrInit s = .next (s.setBlk (s.blk.clearReading.validateAndConfigure Config.hw)) :=
  State.command_idle h _

theorem exec_wrRead_idle {s : State} (h : s.blk.state = St.idle) :
    exec .wrRead s = .next (s.setBlk s.blk.startRead) :=
  State.command_idle h _

/-! ### INIT by what the validation finds (R113) -/

section
variable {p : Params} {b : Block}

theorem Block.validateAndConfigure_invalidPort (hp : p.validPin b.cfgPin = false) :
    b.validateAndConfigure p = b.configError Res.cfgInvalidPort :=
  if_pos (by simp [hp])

theorem Block.validateAndConfigure_invalidTimer (hp : p.validPin b.cfgPin = true)
    (ht : p.validTimer b.cfgTimer = false) : b.validateAndConfigure p = b.configError Res.cfgInvalidTimer :=
  (if_neg (by simp [hp])).trans (if_pos (by simp [ht]))

theorem Block.validateAndConfigure_zeroTimeout (hp : p.validPin b.cfgPin = true)
    (ht : p.validTimer b.cfgTimer = true) (h0 : b.timeout = 0) :
    b.validateAndConfigure p = b.configError Res.cfgZeroTimeout :=
  (if_neg (by simp [hp])).trans <| (if_neg (by simp [ht])).trans (if_pos h0)

theorem Block.validateAndConfigure_valid (hp : p.validPin b.cfgPin = true) (ht : p.validTimer b.cfgTimer = true)
    (h0 : b.timeout ≠ 0) : b.validateAndConfigure p = b.configure :=
  (if_neg (by simp [hp])).trans <| (if_neg (by simp [ht])).trans (if_neg h0)

end

/-- INIT completes within its one host step: BUSY is what it was (R113). -/
@[simp] theorem Block.validateAndConfigure_state (p : Params) (b : Block) :
    (b.validateAndConfigure p).state = b.state := by
  rcases Block.validateAndConfigure_cases p b with ⟨-, e⟩ | ⟨-, -, e⟩ | ⟨-, -, -, e⟩ | ⟨-, -, -, e⟩ <;>
    rw [e] <;> rfl

/-! ### INIT twice (R119): each of its updates, made again, writes what is there -/

section
variable (b : Block) (c : Code)

@[simp] theorem Block.clearReading_clearReading : b.clearReading.clearReading = b.clearReading := rfl

@[simp] theorem Block.configError_configError : (b.configError c).configError c = b.configError c := rfl

@[simp] theorem Block.configure_configure : b.configure.configure = b.configure := rfl

end

/-- A second validation reads the same CONFIG and TIMEOUT, so it takes the branch of the first. -/
theorem Block.validateAndConfigure_twice (p : Params) (b : Block) :
    (b.validateAndConfigure p).validateAndConfigure p = b.validateAndConfigure p := by
  rcases Block.validateAndConfigure_cases p b with
    ⟨hp, e⟩ | ⟨hp, ht, e⟩ | ⟨hp, ht, h0, e⟩ | ⟨hp, ht, h0, e⟩ <;> rw [e]
  · exact (Block.validateAndConfigure_invalidPort (b := b.configError _) hp).trans (by simp)
  · exact (Block.validateAndConfigure_invalidTimer (b := b.configError _) hp ht).trans (by simp)
  · exact (Block.validateAndConfigure_zeroTimeout (b := b.configError _) hp ht h0).trans (by simp)
  · exact (Block.validateAndConfigure_valid (b := b.configure) hp ht h0).trans (by simp)

/-- The validation neither reads nor writes the reading, so clearing it may come before or after. -/
theorem Block.validateAndConfigure_clearReading (p : Params) (b : Block) :
    (b.validateAndConfigure p).clearReading = b.clearReading.validateAndConfigure p := by
  rcases Block.validateAndConfigure_cases p b with
    ⟨hp, e⟩ | ⟨hp, ht, e⟩ | ⟨hp, ht, h0, e⟩ | ⟨hp, ht, h0, e⟩ <;> rw [e]
  · exact (Block.validateAndConfigure_invalidPort (b := b.clearReading) hp).symm
  · exact (Block.validateAndConfigure_invalidTimer (b := b.clearReading) hp ht).symm
  · exact (Block.validateAndConfigure_zeroTimeout (b := b.clearReading) hp ht h0).symm
  · exact (Block.validateAndConfigure_valid (b := b.clearReading) hp ht h0).symm

/-! ### READ by INITIALIZED (R114, R115) -/

theorem Block.startRead_refused {b : Block} (h : b.initialized = false) :
    b.startRead = b.clearReading.setResult Res.rdNotInit := by
  simp [Block.startRead, h]

theorem Block.startRead_accepted {b : Block} (h : b.initialized = true) :
    b.startRead = b.clearReading.beginStart :=
  if_pos h

/-! ### The obligations of the host's interface -/

/-- Settles O21: the first INIT leaves STATE in IDLE, so the second is accepted; it clears what is cleared and
takes the validation's branch again. -/
theorem initIsIdempotent : Obligations.InitIsIdempotent := by
  intro s hs
  have hs' : (s.setBlk (s.blk.clearReading.validateAndConfigure Config.hw)).blk.state = St.idle := by
    simpa using hs
  refine ⟨_, _, exec_wrInit_idle hs, exec_wrInit_idle hs', ?_⟩
  simp only [State.setBlk_blk, Block.validateAndConfigure_clearReading, Block.clearReading_clearReading,
    Block.validateAndConfigure_twice]

/-- Settles O11, field by field. -/
theorem statusReadShowsItsFields : Obligations.StatusReadShowsItsFields := by
  intro s
  obtain ⟨hbusy, hinit, hvalid, hzero⟩ := s.blk.statusWord_flags
  refine ⟨s.blk.statusWord, rfl, hbusy, hinit, hvalid, hzero, s.blk.statusWord_result, s.blk.statusWord_state,
    s.blk.statusWord_bitidx, s.blk.statusWord_above, fun h hs => ?_⟩
  rw [s.blk.statusWord_result]
  exact h.busyResult (s.blk.busy_iff.2 hs)

/-- Settles O12: CONFIG by its fields, the others by definition. -/
theorem readsOfCtrlConfigTimeoutAndReserved : Obligations.ReadsOfCtrlConfigTimeoutAndReserved := fun s =>
  ⟨rfl, ⟨s.blk.configWord, rfl, s.blk.configWord_pin, s.blk.configWord_timer, s.blk.configWord_above⟩, rfl,
    fun _ => rfl⟩

/-- Settles O13: the two clauses about the values are R39's item 9 and R34, both in the invariant. -/
theorem dataReadsReturnTheReading : Obligations.DataReadsReturnTheReading := fun _ =>
  ⟨rfl, rfl, fun h => h.item9, fun h => h.data1_above⟩

/-- Settles O15: the two fields stored are adjacent in DATA, so together they read back as DATA[15:0]. -/
theorem configWriteStoresTheIdentifiers : Obligations.ConfigWriteStoresTheIdentifiers := by
  intro s data
  refine ⟨s.setBlk (s.blk.storeConfig data), rfl, rfl, ?_⟩
  rw [← s.blk.configWord_storeConfig data]
  rfl

/-- Settles O16: the write is one field's update and the read returns that field. -/
theorem timeoutWriteStoresTheBudget : Obligations.TimeoutWriteStoresTheBudget := fun s data =>
  ⟨s.setBlk (s.blk.storeTimeout data), rfl, rfl, rfl⟩

/-- Settles O17: the four meanings are R111's skip. -/
theorem writesToReadOnlyOffsetsChangeNothing : Obligations.WritesToReadOnlyOffsetsChangeNothing := fun _ _ _ =>
  ⟨rfl, rfl, rfl, rfl⟩

/-- Settles O18: NOP and the reserved command run the identity, and a busy block drops every command. -/
theorem commandsWhileBusyAreDropped : Obligations.CommandsWhileBusyAreDropped := fun s =>
  ⟨s.command_id, s.command_id, fun hs => ⟨State.command_busy hs _, State.command_busy hs _⟩⟩

/-- Settles O20, branch by branch of the validation. -/
theorem initValidatesAndLatchesTheConfiguration : Obligations.InitValidatesAndLatchesTheConfiguration := by
  refine ⟨fun s => ⟨fun hs => exec_wrInit_idle hs, fun hs => State.command_busy hs _⟩, fun p b => ?_⟩
  split_ifs with hp ht h0
  · exact Block.validateAndConfigure_invalidPort (b := b.clearReading) hp
  · exact Block.validateAndConfigure_invalidTimer (b := b.clearReading) (Bool.eq_true_of_not_eq_false hp) ht
  · exact Block.validateAndConfigure_zeroTimeout (b := b.clearReading) (Bool.eq_true_of_not_eq_false hp)
      (Bool.eq_true_of_not_eq_false ht) h0
  · exact Block.validateAndConfigure_valid (b := b.clearReading) (Bool.eq_true_of_not_eq_false hp)
      (Bool.eq_true_of_not_eq_false ht) h0

/-- Settles O22: an IDLE block without a configuration takes R114's branch. -/
theorem readBeforeInitIsRefused : Obligations.ReadBeforeInitIsRefused := by
  intro s hs hi
  rw [exec_wrRead_idle hs, Block.startRead_refused hi]
  rfl

/-- Settles O23: an IDLE block with a configuration takes R115's branch. -/
theorem readStartsATransaction : Obligations.ReadStartsATransaction := by
  intro s hs hi
  rw [exec_wrRead_idle hs, Block.startRead_accepted hi]
  rfl

end Sys2Proof.Machine

/-! The start pulse and the handshake (41_start_and_handshake.md): what the steps of START and of the three phases
do, how a timeout ends, and how long the line is held low. -/

namespace Sys2Proof.Machine

/-! ### One poll of a bounded wait (R143) -/

section
variable {s : State} (level : Bool) {next : Code} {entry : Block → Block}

theorem State.await_awaited (hv : s.sampleLevel = level) :
    s.sampleStep (Block.await level next entry) = .next (s.sampled.setBlk ((entry s.blk).goto next)) := by
  rw [State.sampleStep, Block.await, if_pos hv]

theorem State.await_missed (hv : s.sampleLevel = !level) :
    s.sampleStep (Block.await level next entry) = .next (s.sampled.setBlk s.blk.missedPoll) := by
  rw [State.sampleStep, Block.await, if_neg (by simp [hv])]

theorem State.await_missed_more (hv : s.sampleLevel = !level) (h : s.blk.polls ≠ 1) :
    s.sampleStep (Block.await level next entry) =
      .next (s.sampled.setBlk { s.blk with polls := s.blk.polls - 1 }) := by
  rw [State.await_missed level hv, Block.missedPoll_more h]

theorem State.await_missed_last (hv : s.sampleLevel = !level) (h : s.blk.polls = 1) :
    s.sampleStep (Block.await level next entry) =
      .next (s.sampled.setBlk { s.blk with polls := 0, pend := Res.rdTimeout, state := St.error }) := by
  rw [State.await_missed level hv, Block.missedPoll_last h]

end

/-! ### A handshake timeout (R148) -/

section
variable {b : Block}

/-- A missed poll that ends in ERROR is the last of its budget. -/
theorem Block.missedPoll_of_error (hs : b.state ≠ St.error) (h : b.missedPoll.state = St.error) :
    b.missedPoll = b.spendPoll.fail Res.rdTimeout := by
  rcases b.missedPoll_cases with ⟨-, e⟩ | ⟨-, e⟩
  · exact e
  · rw [e] at h
    exact absurd h hs

/-- A wait whose next phase is not ERROR reaches ERROR by its timeout alone. -/
theorem Block.await_of_error {level v : Bool} {next : Code} {entry : Block → Block} (hnext : next ≠ St.error)
    (hs : b.state ≠ St.error) (h : (Block.await level next entry v b).state = St.error) :
    Block.await level next entry v b = b.spendPoll.fail Res.rdTimeout := by
  rcases Block.await_cases level next entry v b with ⟨-, e⟩ | ⟨-, e⟩ <;> rw [e] at h ⊢
  · exact absurd h hnext
  · exact Block.missedPoll_of_error hs h

/-- An ENGINE step of a handshake phase reaches ERROR by the phase's timeout alone. -/
theorem Block.inHandshake.timesOut {i : Instr} {v : Bool} (hs : b.inHandshake) (hi : decodeState b.state = .ok i)
    (h : (blockEffect i v b).state = St.error) : blockEffect i v b = b.spendPoll.fail Res.rdTimeout := by
  rcases hs with e | e | e <;> rw [e] at hi <;> cases hi <;>
    exact Block.await_of_error (by decide) (by simp [e]) h

end

/-- A pending ENGINE turn that completes has the effect of the rule its STATE selects. -/
theorem step_engine_next {s t : State} {rest : List Input} (ha : s.agenda = .engine :: rest)
    (h : step s = .next t) : ∃ i v, decodeState s.blk.state = .ok i ∧ t.blk = blockEffect i v s.blk := by
  obtain ⟨raw, i, hfetch, hdec, hexec⟩ := step_next h
  rw [State.nextInput, ha] at hfetch
  cases hfetch
  exact ⟨i, _, hdec, (exec_next hexec).1⟩

/-- The ERROR step completes when PEND is no reserved code (43_checksum_and_completion.md R184). -/
theorem exec_stepError_legal {s : State} (h : Res.reserved s.blk.pend = false) :
    exec .stepError s = .next (s.setBlk s.blk.endError) :=
  if_neg (by simp [h])

/-! ### The start pulse (R142) -/

/-- The start pulse after `ticks` ticks: the block is in START and drives the line low, and DLY has counted the
ticks, saturating at START_LOW_TICKS. -/
structure Block.StartPulse (b : Block) (ticks : Nat) : Prop where
  inStart : b.state = St.start
  output : b.lineOe = true
  low : b.lineOut = false
  delay : b.dly.toNat = min ticks startLowTicks.toNat

/-- An accepted READ begins the pulse (40_host_interface.md R115). -/
theorem Block.beginStart_startPulse (b : Block) : b.beginStart.StartPulse 0 :=
  ⟨rfl, rfl, rfl, rfl⟩

namespace Block.StartPulse

variable {b : Block} {ticks : Nat} (h : b.StartPulse ticks)
include h

/-- The staging registers are no part of the pulse. -/
theorem of_unstaged {b' : Block} (he : b'.unstaged = b.unstaged) : b'.StartPulse ticks where
  inStart := (Block.of_unstaged Block.state (fun _ => rfl) he).trans h.inStart
  output := (Block.of_unstaged Block.lineOe (fun _ => rfl) he).trans h.output
  low := (Block.of_unstaged Block.lineOut (fun _ => rfl) he).trans h.low
  delay := (congrArg BitVec.toNat (Block.of_unstaged Block.dly (fun _ => rfl) he)).trans h.delay

/-- A tick counts in DLY until it saturates (42_bit_acquisition.md R161). -/
theorem tickRule : b.tickRule.StartPulse (ticks + 1) := by
  obtain ⟨hs, hoe, hout, hdly⟩ := h
  have hmax : startLowTicks.toNat = 20000 := rfl
  rw [Block.tickRule_eq]
  refine ⟨hs, hoe, hout, ?_⟩
  by_cases hlt : b.dly.toNat < startLowTicks.toNat
  · have hcount : (b.dly + 1).toNat = b.dly.toNat + 1 := by bv_omega
    simp only [hs, hlt, and_self, if_true, hcount]
    omega
  · simp only [hlt, and_false, if_false]
    omega

/-- The START step leaves the pulse as it is, unless START_LOW_TICKS ticks have occurred (R141). -/
theorem startRule (hstay : ticks < startLowTicks.toNat ∨ b.startRule.state = St.start) :
    b.startRule.StartPulse ticks := by
  rcases b.startRule_cases with ⟨hdly, e⟩ | ⟨-, e⟩ <;> rw [e] at hstay ⊢
  · have hsaturated := h.delay
    rw [hdly] at hsaturated
    rcases hstay with hlt | hack
    · omega
    · cases hack
  · exact h

end Block.StartPulse

/-- A step that is no RESET keeps the pulse before START_LOW_TICKS ticks, and for as long as the block stays in
START. -/
theorem step_feed_startPulse {s t : State} {x : Input} {v : Bool} {ticks : Nat} (h : step (s.feed x v) = .next t)
    (hx : x ≠ .reset) (hp : s.blk.StartPulse ticks)
    (hstay : ticks < startLowTicks.toNat ∨ t.blk.state = St.start) :
    t.blk.StartPulse (ticks + if x = .tick then 1 else 0) := by
  rcases step_feed_busy h hx (by simp [hp.inStart]) with ⟨rfl, i, hi, e⟩ | ⟨rfl, e⟩ | ⟨-, hne, e⟩
  · rw [hp.inStart] at hi
    cases hi
    rw [e] at hstay ⊢
    exact hp.startRule hstay
  · rw [e]
    exact hp.tickRule
  · rw [if_neg hne]
    exact hp.of_unstaged e

/-- The pulse lasts along a run without RESET, while too few ticks have occurred or the block stays in START. -/
theorem Run.startPulse {r : Nat → State} {xs : Nat → Input} {vs : Nat → Bool} {n : Nat} (hrun : Run r xs vs n)
    (hreset : ∀ k, k < n → xs k ≠ .reset) (h0 : (r 0).blk.StartPulse 0)
    (hstay : ∀ k, k < n →
      inputCount .tick xs k < startLowTicks.toNat ∨ (r (k + 1)).blk.state = St.start) :
    (r n).blk.StartPulse (inputCount .tick xs n) := by
  induction n with
  | zero => exact h0
  | succ n ih =>
    have hn := ih (fun k hk => hrun k (by omega)) (fun k hk => hreset k (by omega)) (fun k hk => hstay k (by omega))
    exact step_feed_startPulse (hrun n n.lt_succ_self) (hreset n n.lt_succ_self) hn (hstay n n.lt_succ_self)

/-! ### The obligations of the start pulse and the handshake -/

/-- Settles O30: the only way from a handshake phase to ERROR is the timeout, whose PEND the invariant ties to an
empty buffer, and the ERROR step reports PEND. -/
theorem handshakeTimeoutReturnsNoPartialData : Obligations.HandshakeTimeoutReturnsNoPartialData := by
  intro s t rest hinv hs ha hstep herr
  have ht : t.blk.Inv := step_keeps_inv hinv hstep
  obtain ⟨i, v, hi, e⟩ := step_engine_next ha hstep
  have hfail : t.blk = s.blk.spendPoll.fail Res.rdTimeout := e.trans (hs.timesOut hi (e ▸ herr))
  have hpend : t.blk.pend = Res.rdTimeout := by rw [hfail]; rfl
  obtain ⟨hidx, hshift⟩ := ht.timeoutPending hpend
  have htrans := ht.transacting (by rw [herr]; decide)
  exact ⟨hshift, hidx, htrans.noData0, htrans.noData1, htrans.invalid, _,
    exec_stepError_legal (by rw [hpend]; rfl), hpend, rfl⟩

/-- Settles O51: READ begins the pulse, and it lasts while fewer than 20000 ticks have occurred, for the count only
grows, and while the block is in START. -/
theorem startPulseLastsAtLeast20000Ticks : Obligations.StartPulseLastsAtLeast20000Ticks := by
  intro r xs vs n s hrun hs hinit hread hreset
  have h0 : (r 0).blk.StartPulse 0 := by
    rw [exec_wrRead_idle hs, Block.startRead_accepted hinit] at hread
    rw [← Host.Outcome.next.inj hread]
    exact Block.beginStart_startPulse _
  constructor
  · intro hfew
    have hp := hrun.startPulse hreset h0 fun k hk => .inl <| by
      have hmono := inputCount_mono .tick xs k (n - k)
      rw [Nat.add_sub_cancel' hk.le] at hmono
      exact hmono.trans_lt hfew
    exact ⟨hp.inStart, hp.output, hp.low⟩
  · intro hstart
    have hp := hrun.startPulse hreset h0 fun k hk => .inr (hstart (k + 1) hk)
    exact ⟨hp.output, hp.low⟩

/-- Settles O26, by the two branches of R141. -/
theorem startStepReleasesTheLineAfter20000Ticks : Obligations.StartStepReleasesTheLineAfter20000Ticks := by
  intro s
  have hexec : exec .stepStart s = .next (s.setBlk s.blk.startRule) := rfl
  rw [hexec]
  rcases s.blk.startRule_cases with ⟨hdly, e⟩ | ⟨hdly, e⟩ <;> rw [e]
  · exact ⟨fun _ => rfl, fun hne => absurd hdly hne⟩
  · exact ⟨fun heq => absurd heq hdly, fun _ => rfl⟩

/-- Settles O27: both phases are R143's wait. -/
theorem ackPhasesAAndBWaitForTheirLevel : Obligations.AckPhasesAAndBWaitForTheirLevel := fun _ =>
  ⟨State.await_awaited false, State.await_missed_more false, State.await_missed_last false,
    State.await_awaited true, State.await_missed_more true, State.await_missed_last true⟩

/-- Settles O28: phase (c) is R143's wait, and a bit-wait limit, where there is one, is loaded on its exit. -/
theorem ackPhaseCEntersTheFirstBit : Obligations.AckPhaseCEntersTheFirstBit := by
  intro s
  refine ⟨State.await_awaited false, State.await_missed_more false, State.await_missed_last false,
    fun h hs => ?_, fun p l hl => ?_⟩
  · exact ⟨(h.emptyBuffer (.inr (.inr (.inr hs)))).1, h.run_off (by simp [hs])⟩
  · rw [Block.ackCRule, Block.await, if_pos rfl, Block.loadBitWait_some hl]
    rfl

end Sys2Proof.Machine

/-! Bit acquisition (42_bit_acquisition.md): the tick, the classification and packing of a bit, what the steps of
BIT_HIGH and BIT_LOW do, and what a whole transaction has acquired when it reaches CHECK. -/

namespace Sys2Proof.Machine

/-! ### A buffer in transaction order: bit `i` from the top is bit `i` of the transaction (R163) -/

theorem packAt_getLsbD (v : Buffer) (i : Nat) (b : Bool) {j : Nat} (hj : j < 40) :
    (packAt v i b).getLsbD j = if j = 39 - i then b else v.getLsbD j := by
  rw [packAt, BitVec.getLsbD_or, BitVec.getLsbD_and, BitVec.getLsbD_not, apply_ite (BitVec.getLsbD · j),
    bitMask_getLsbD _ _ hj]
  by_cases he : j = 39 - i <;> cases b <;> simp [he, hj]

/-- `pack` replaces one bit, counted from the top, and no other (R163). -/
theorem pack_getMsbD {v : Buffer} {i : BitVec 6} {b : Bool} {j : Nat} (hi : i.toNat ≤ 39) (hj : j < 40) :
    (pack v i b).getMsbD j = if j = i.toNat then b else v.getMsbD j := by
  have hplace : 39 - j < 40 := by omega
  have hsame : 39 - j = 39 - i.toNat ↔ j = i.toNat := by omega
  simp [pack_inside hi, BitVec.getMsbD_eq_getLsbD, hj, packAt_getLsbD _ _ _ hplace, hsame]

/-- Byte `k` of a buffer holds the bits 8k to 8k + 7 from the top (20_memory.md R65). -/
theorem byteK_getMsbD (v : Buffer) {k j : Nat} (hk : k < 5) (hj : j < 8) :
    (byteK k v).getMsbD j = v.getMsbD (8 * k + j) := by
  have hfits : 32 - 8 * k + 8 - j ≤ 40 := by omega
  have hplace : 40 - (32 - 8 * k + 8 - j) = 8 * k + j := by omega
  simp [byteK, BitVec.getMsbD_extractLsb', hj, hfits, hplace]

/-- A number is the sum of its bits' weights, the top bit first. -/
theorem toNat_eq_sum_getMsbD {w : Nat} (x : BitVec w) :
    x.toNat = ((List.range w).map fun j => if x.getMsbD j then 2 ^ (w - 1 - j) else 0).sum := by
  induction w with
  | zero => simp [BitVec.of_length_zero]
  | succ w ih =>
    have htop : x.toNat = (if x.msb then 2 ^ w else 0) + (x.setWidth w).toNat := by
      conv_lhs => rw [← BitVec.cons_msb_setWidth x, BitVec.toNat_cons']
      cases x.msb <;> simp [Nat.shiftLeft_eq]
    rw [htop, ih, List.sum_range_succ', BitVec.msb]
    congr 2
    refine List.map_congr_left fun j hj => ?_
    have hbit : (x.setWidth w).getMsbD j = x.getMsbD (j + 1) := by
      rw [BitVec.getMsbD_setWidth]
      simp [show w - (w + 1) = 0 by omega, show j + (w + 1) - w = j + 1 by omega]
    have hweight : w + 1 - 1 - (j + 1) = w - 1 - j := by omega
    rw [hbit, Nat.succ_eq_add_one, hweight]

/-! ### The classification of a pulse (R162) -/

theorem classify_iff {threshold t : Word} : classify threshold t = true ↔ threshold.toNat < t.toNat :=
  decide_eq_true_iff

theorem classify_false_iff {threshold t : Word} : classify threshold t = false ↔ t.toNat ≤ threshold.toNat := by
  rw [← Bool.not_eq_true, classify_iff, Nat.not_lt]

/-! ### The bit waits, with and without a limit (R164, R165, R167) -/

section
variable {p : Params} {b : Block}

theorem Block.bitLowRule_fall : Block.bitLowRule p false b = (b.takeBit p).nextBit p := rfl

/-- The fall of a bit that is not the last leads to the next bit. -/
theorem Block.bitLowRule_fall_more (h : b.bitidx.toNat < 39) :
    Block.bitLowRule p false b = ((b.takeBit p).resetTimer.loadBitWait p).goto St.bitHigh := by
  rw [Block.bitLowRule_fall, Block.nextBit, if_neg]
  rw [Block.takeBit_bitidx]
  bv_omega

/-- The fall of the last bit leads to CHECK. -/
theorem Block.bitLowRule_fall_last (h : b.bitidx = 39#6) :
    Block.bitLowRule p false b = (b.takeBit p).goto St.check := by
  rw [Block.bitLowRule_fall, Block.nextBit, if_pos]
  rw [Block.takeBit_bitidx, h]
  rfl

variable {l : Word} (hl : p.bitWaitLimit = some l)
include hl

theorem Block.bitHighRule_rise_bounded :
    Block.bitHighRule p true b = (b.startTimer.loadPolls l).goto St.bitLow := by
  rw [Block.bitHighRule, if_pos rfl, Block.loadBitWait_some hl]

theorem Block.bitHighRule_low_bounded : Block.bitHighRule p false b = b.missedPoll := by
  simp [Block.bitHighRule, hl]

theorem Block.bitLowRule_high_bounded : Block.bitLowRule p true b = b.missedFall := by
  simp [Block.bitLowRule, hl]

theorem Block.bitLowRule_fall_more_bounded (h : b.bitidx.toNat < 39) :
    Block.bitLowRule p false b = ((b.takeBit p).resetTimer.loadPolls l).goto St.bitHigh := by
  rw [Block.bitLowRule_fall_more h, Block.loadBitWait_some hl]

end

/-! ### Wrong samples in a row (R167) -/

section
variable {rule : Block → Block} (hmore : ∀ b : Block, b.polls ≠ 1 → rule b = { b with polls := b.polls - 1 })
include hmore

/-- A rule that spends one poll on a wrong sample, for as long as it is not the last, has spent `m` after `m`. -/
theorem Block.iterate_missed (b : Block) {m : Nat} (hm : m < b.polls.toNat) :
    rule^[m] b = { b with polls := b.polls - BitVec.ofNat 32 m } := by
  induction m with
  | zero => simp
  | succ m ih =>
    have hleft : b.polls - BitVec.ofNat 32 m ≠ 1 := by bv_omega
    have hspent : b.polls - BitVec.ofNat 32 m - 1 = b.polls - BitVec.ofNat 32 (m + 1) := by bv_omega
    rw [Function.iterate_succ_apply', ih (by omega), hmore _ hleft, hspent]

/-- The wrong sample that exhausts the budget meets a block with one poll left. -/
theorem Block.iterate_missed_last (b : Block) {m : Nat} (hpos : 1 ≤ m) (hm : m = b.polls.toNat) :
    rule^[m] b = rule { b with polls := 1 } := by
  obtain ⟨n, rfl⟩ := Nat.exists_eq_add_of_le' hpos
  have hone : b.polls - BitVec.ofNat 32 n = 1 := by bv_omega
  rw [Function.iterate_succ_apply', Block.iterate_missed hmore b (by omega), hone]

end

/-! ### The measured pulse width (R168) -/

/-- A pulse is being measured: the timer runs in BIT_LOW and has counted `ticks` ticks, modulo 2^32. -/
structure Block.Measuring (b : Block) (ticks : Nat) : Prop where
  inBitLow : b.state = St.bitLow
  running : b.run = true
  count : b.cnt.toNat = ticks % 2 ^ 32

namespace Block.Measuring

variable {b : Block} {ticks : Nat} (h : b.Measuring ticks)
include h

/-- The staging registers are no part of the measurement. -/
theorem of_unstaged {b' : Block} (he : b'.unstaged = b.unstaged) : b'.Measuring ticks where
  inBitLow := (Block.of_unstaged Block.state (fun _ => rfl) he).trans h.inBitLow
  running := (Block.of_unstaged Block.run (fun _ => rfl) he).trans h.running
  count := (congrArg BitVec.toNat (Block.of_unstaged Block.cnt (fun _ => rfl) he)).trans h.count

theorem tickRule : b.tickRule.Measuring (ticks + 1) := by
  obtain ⟨hs, hrun, hcnt⟩ := h
  rw [Block.tickRule_eq]
  refine ⟨hs, hrun, ?_⟩
  rw [if_pos hrun, BitVec.toNat_add, hcnt]
  exact Nat.mod_add_mod _ _ _

/-- The BIT_LOW step leaves the measurement as it is, unless it leaves BIT_LOW. -/
theorem bitLowRule {v : Bool} (hstay : (Block.bitLowRule Config.hw v b).state = St.bitLow) :
    (Block.bitLowRule Config.hw v b).Measuring ticks := by
  rw [Block.bitLowRule_hw] at hstay ⊢
  cases v with
  | true => exact h
  | false =>
    rcases (b.takeBit Config.hw).nextBit_cases with ⟨-, e⟩ | ⟨-, e⟩ <;> simp [e] at hstay

end Block.Measuring

/-- The rise begins the measurement: CNT is 0 in BIT_HIGH. -/
theorem Block.Inv.rise_measuring {b : Block} (h : b.Inv) (hs : b.state = St.bitHigh) :
    (Block.bitHighRule Config.hw true b).Measuring 0 :=
  ⟨rfl, rfl, congrArg BitVec.toNat (h.freshCount hs)⟩

/-- A RESET supplied by the environment ends in IDLE. -/
theorem step_feed_reset {s t : State} {v : Bool} (h : step (s.feed .reset v) = .next t) : t.blk.state = St.idle := by
  cases h
  rfl

/-- A step that stays in BIT_LOW adds its tick, if it is one, to the measurement. -/
theorem step_feed_measuring {s t : State} {x : Input} {v : Bool} {ticks : Nat} (h : step (s.feed x v) = .next t)
    (hm : s.blk.Measuring ticks) (hstay : t.blk.state = St.bitLow) :
    t.blk.Measuring (ticks + if x = .tick then 1 else 0) := by
  have hx : x ≠ .reset := by
    rintro rfl
    exact absurd (hstay.symm.trans (step_feed_reset h)) (by decide)
  rcases step_feed_busy h hx (by simp [hm.inBitLow]) with ⟨rfl, i, hi, e⟩ | ⟨rfl, e⟩ | ⟨-, hne, e⟩
  · rw [hm.inBitLow] at hi
    cases hi
    rw [e] at hstay ⊢
    exact hm.bitLowRule hstay
  · rw [e]
    exact hm.tickRule
  · rw [if_neg hne]
    exact hm.of_unstaged e

/-- The measurement counts every tick of a run that begins with the rise and then stays in BIT_LOW. -/
theorem Run.measuring {r : Nat → State} {xs : Nat → Input} {vs : Nat → Bool} {n : Nat} (hrun : Run r xs vs (n + 1))
    (hinv : (r 0).blk.Inv) (hs : (r 0).blk.state = St.bitHigh) (hx : xs 0 = .engine) (hv : vs 0 = true)
    (hstay : ∀ k, 1 ≤ k → k ≤ n + 1 → (r k).blk.state = St.bitLow) :
    (r (n + 1)).blk.Measuring (inputCount .tick xs (n + 1)) := by
  induction n with
  | zero =>
    have hrise := hrun 0 Nat.one_pos
    rw [hx, hv] at hrise
    obtain ⟨i, hi, e⟩ := step_feed_engine_next hrise
    rw [hs] at hi
    cases hi
    rw [inputCount_other (by simp [hx]), e]
    exact hinv.rise_measuring hs
  | succ n ih =>
    have hm := ih (fun k hk => hrun k (by omega)) (fun k h1 hk => hstay k h1 (by omega))
    exact step_feed_measuring (hrun (n + 1) (by omega)) hm (hstay (n + 2) (by omega) (by omega))

/-! ### What a transaction has acquired (R166) -/

/-- BITIDX and SHIFT: how many bits are taken, and the buffer they are packed in. -/
def Block.acquired (b : Block) : BitVec 6 × Buffer := (b.bitidx, b.shift)

@[simp] theorem Block.goto_acquired (b : Block) (st : Code) : (b.goto st).acquired = b.acquired := rfl
@[simp] theorem Block.fail_acquired (b : Block) (c : Code) : (b.fail c).acquired = b.acquired := rfl
@[simp] theorem Block.loadPolls_acquired (b : Block) (n : Word) : (b.loadPolls n).acquired = b.acquired := rfl
@[simp] theorem Block.spendPoll_acquired (b : Block) : b.spendPoll.acquired = b.acquired := rfl
@[simp] theorem Block.releaseLine_acquired (b : Block) : b.releaseLine.acquired = b.acquired := rfl
@[simp] theorem Block.startTimer_acquired (b : Block) : b.startTimer.acquired = b.acquired := rfl
@[simp] theorem Block.resetTimer_acquired (b : Block) : b.resetTimer.acquired = b.acquired := rfl
@[simp] theorem Block.doneRule_acquired (b : Block) : b.doneRule.acquired = b.acquired := rfl

@[simp] theorem Block.missedPoll_acquired (b : Block) : b.missedPoll.acquired = b.acquired := by
  rcases b.missedPoll_cases with ⟨-, e⟩ | ⟨-, e⟩ <;> simp [e]

@[simp] theorem Block.startRule_acquired (b : Block) : b.startRule.acquired = b.acquired := by
  rcases b.startRule_cases with ⟨-, e⟩ | ⟨-, e⟩ <;> simp [e]

/-- A handshake phase acquires nothing, if entering the next one does not (R143). -/
theorem Block.await_acquired {level : Bool} {next : Code} {entry : Block → Block} (v : Bool) (b : Block)
    (hentry : (entry b).acquired = b.acquired) : (Block.await level next entry v b).acquired = b.acquired := by
  rcases Block.await_cases level next entry v b with ⟨-, e⟩ | ⟨-, e⟩ <;> simp [e, hentry]

@[simp] theorem Block.bitHighRule_acquired (v : Bool) (b : Block) :
    (Block.bitHighRule Config.hw v b).acquired = b.acquired := by
  rw [Block.bitHighRule_hw]
  cases v <;> simp

@[simp] theorem Block.nextBit_acquired (b : Block) : (b.nextBit Config.hw).acquired = b.acquired := by
  rcases b.nextBit_cases with ⟨-, e⟩ | ⟨-, e⟩ <;> simp [e]

@[simp] theorem Block.checkRule_acquired (b : Block) : b.checkRule.acquired = b.acquired := by
  rcases b.checkRule_cases with ⟨-, e⟩ | ⟨-, e⟩ <;> simp [e]

@[simp] theorem Block.tickRule_acquired (b : Block) : b.tickRule.acquired = b.acquired := by
  rw [Block.tickRule_eq]
  rfl

/-- Of the ENGINE rules only BIT_LOW's acquires anything, and only ERROR's, which ends in IDLE, empties SHIFT. -/
theorem engine_acquired {i : Instr} {b : Block} {v : Bool} (hi : decode (.engineState b.state) = .ok i)
    (hlow : b.state ≠ St.bitLow) (hend : (blockEffect i v b).state ≠ St.idle) :
    (blockEffect i v b).acquired = b.acquired := by
  have hcode := decodeState_ok hi
  cases i with
  | stepIdle => rfl
  | stepStart => exact b.startRule_acquired
  | stepAckA => exact Block.await_acquired v b rfl
  | stepAckB => exact Block.await_acquired v b rfl
  | stepAckC => exact Block.await_acquired v b rfl
  | stepBitHigh => exact Block.bitHighRule_acquired v b
  | stepBitLow => exact absurd (RawWord.engineState.inj hcode).symm hlow
  | stepCheck => exact b.checkRule_acquired
  | stepDone => exact b.doneRule_acquired
  | stepError => exact absurd rfl hend
  | rdCtrl | rdStatus | rdConfig | rdTimeout | rdData0 | rdData1 | rdRsvd | wrNop | wrInit | wrRead | wrCmdRsvd
  | wrStatus | wrConfig | wrTimeout | wrData0 | wrData1 | wrRsvd | misaligned01 | misaligned10 | misaligned11
  | tick | reset => cases hcode

/-- The bits taken are those whose pulses counted `ts`: as many, classified, in transaction order. -/
structure Block.HasTaken (b : Block) (ts : List Word) : Prop where
  count : b.bitidx.toNat = ts.length
  bits : ∀ i, i < ts.length → b.shift.getMsbD i = classify Config.threshold (ts.getD i 0)

namespace Block.HasTaken

variable {b : Block} {ts : List Word} (h : b.HasTaken ts)
include h

theorem of_acquired {b' : Block} (he : b'.acquired = b.acquired) : b'.HasTaken ts := by
  obtain ⟨hidx, hshift⟩ := Prod.mk.inj he
  exact ⟨hidx ▸ h.count, hshift ▸ h.bits⟩

/-- The fall takes one more bit, whose pulse is the count it reads (R165). -/
theorem takeBit (hlt : b.bitidx.toNat < 40) : (b.takeBit Config.hw).HasTaken (ts ++ [b.cnt]) := by
  obtain ⟨hcount, hbits⟩ := h
  constructor
  · rw [Block.takeBit_bitidx, List.length_append, List.length_singleton]
    bv_omega
  · intro i hi
    rw [List.length_append, List.length_singleton] at hi
    rw [Block.takeBit_shift, pack_getMsbD (by omega) (by omega), hcount]
    rcases Nat.lt_succ_iff_lt_or_eq.1 hi with hold | rfl
    · rw [if_neg hold.ne, hbits i hold, List.getD_append _ _ _ _ hold]
    · simp [Config.hw]

/-- The BIT_LOW step takes a bit on a low sample and none on a high one. -/
theorem bitLowRule (hlt : b.bitidx.toNat < 40) (v : Bool) :
    (Block.bitLowRule Config.hw v b).HasTaken (ts ++ if v = false then [b.cnt] else []) := by
  rw [Block.bitLowRule_hw]
  cases v with
  | true => simpa using h
  | false => exact (h.takeBit hlt).of_acquired (Block.nextBit_acquired _)

/-- With all 40 bits taken, a byte of the buffer is the sum of its classified pulses' weights. -/
theorem byteK_toNat (hall : ts.length = 40) {k : Nat} (hk : k < 5) :
    (byteK k b.shift).toNat =
      ((List.range 8).map fun j =>
        if classify Config.threshold (ts.getD (8 * k + j) 0) then 2 ^ (7 - j) else 0).sum := by
  rw [toNat_eq_sum_getMsbD]
  refine congrArg List.sum (List.map_congr_left fun j hj => ?_)
  have hj : j < 8 := List.mem_range.1 hj
  rw [byteK_getMsbD _ hk hj, h.bits _ (by omega)]

end Block.HasTaken

/-- A step of a transaction adds the count it read to the pulses taken, if it completed a bit, and nothing else. -/
theorem step_feed_hasTaken {s t : State} {x : Input} {v : Bool} {ts : List Word} (h : step (s.feed x v) = .next t)
    (hx : x ≠ .reset) (hinv : s.blk.Inv) (hs : s.blk.state ≠ St.idle) (ht : t.blk.state ≠ St.idle)
    (hb : s.blk.HasTaken ts) :
    t.blk.HasTaken (ts ++ if s.blk.state = St.bitLow ∧ x = .engine ∧ v = false then [s.blk.cnt] else []) := by
  rcases step_feed_busy h hx hs with ⟨rfl, i, hi, e⟩ | ⟨rfl, e⟩ | ⟨hne, -, e⟩
  · by_cases hlow : s.blk.state = St.bitLow
    · rw [hlow] at hi
      cases hi
      have htaken := hb.bitLowRule (hinv.bitsMissing (.inr hlow)) v
      simpa only [e, blockEffect, hlow, true_and] using htaken
    · rw [e] at ht
      rw [if_neg (fun hc => hlow hc.1), List.append_nil, e]
      exact hb.of_acquired (engine_acquired hi hlow ht)
  · rw [if_neg (by simp), List.append_nil, e]
    exact hb.of_acquired s.blk.tickRule_acquired
  · rw [if_neg (fun hc => hne hc.2.1), List.append_nil]
    exact hb.of_acquired (Block.of_unstaged Block.acquired (fun _ => rfl) e)

theorem Run.inv {r : Nat → State} {xs : Nat → Input} {vs : Nat → Bool} {n : Nat} (hrun : Run r xs vs n)
    (h0 : (r 0).blk.Inv) {k : Nat} (hk : k ≤ n) : (r k).blk.Inv := by
  induction k with
  | zero => exact h0
  | succ k ih => exact step_keeps_inv (s := (r k).feed (xs k) (vs k)) (ih (by omega)) (hrun k hk)

/-- Along a run of one transaction that starts with no bit taken, the bits taken are those of `pulseCounts`. -/
theorem Run.hasTaken {r : Nat → State} {xs : Nat → Input} {vs : Nat → Bool} {n : Nat} (hrun : Run r xs vs n)
    (hinv : (r 0).blk.Inv) (h0 : (r 0).blk.bitidx = 0) (hreset : ∀ k, k < n → xs k ≠ .reset)
    (hbusy : ∀ k, k ≤ n → (r k).blk.state ≠ St.idle) : (r n).blk.HasTaken (pulseCounts r xs vs n) := by
  induction n with
  | zero => exact ⟨by simp [h0, pulseCounts], by simp [pulseCounts]⟩
  | succ n ih =>
    have hn := ih (fun k hk => hrun k (by omega)) (fun k hk => hreset k (by omega)) (fun k hk => hbusy k (by omega))
    exact step_feed_hasTaken (hrun n n.lt_succ_self) (hreset n n.lt_succ_self) (hrun.inv hinv n.le_succ)
      (hbusy n n.le_succ) (hbusy (n + 1) le_rfl) hn

/-! ### The obligations of bit acquisition -/

/-- Settles O38: the bits taken along the run are those of its pulses, and the invariant counts 40 at CHECK. -/
theorem acquiredBufferIsTheClassifiedPulses : Obligations.AcquiredBufferIsTheClassifiedPulses := by
  intro r xs vs n hrun hinv _ _ h0 hreset hbusy hcheck
  have htaken := hrun.hasTaken hinv h0 hreset hbusy
  have hall : (pulseCounts r xs vs n).length = 40 := by
    rw [← htaken.count, (hrun.inv hinv le_rfl).allBits (.inl hcheck)]
    rfl
  exact ⟨hall, fun _ hk => htaken.byteK_toNat hall hk⟩

/-- Settles O39: from the rise on, CNT counts the ticks. -/
theorem pulseWidthCountsTheTicks : Obligations.PulseWidthCountsTheTicks := by
  intro r xs vs n hrun hn hinv hs hx hv hstay
  obtain ⟨m, rfl⟩ := Nat.exists_eq_add_of_le' hn
  exact (hrun.measuring hinv hs hx hv hstay).count

/-- Settles O34: bit 39 - i is bit i from the top, which is bit i mod 8 from the top of byte i div 8. -/
theorem packReplacesOneBitInTransactionOrder : Obligations.PackReplacesOneBitInTransactionOrder := by
  intro v i b hi
  refine ⟨fun j hj => by rw [pack_inside hi, packAt_getLsbD _ _ _ hj], ?_⟩
  have hj : i.toNat % 8 < 8 := Nat.mod_lt _ (by decide)
  have htop : (byteK (i.toNat / 8) (pack v i b)).getMsbD (i.toNat % 8) = b := by
    rw [byteK_getMsbD _ (by omega) hj, Nat.div_add_mod, pack_getMsbD hi (by omega), if_pos rfl]
  simpa [BitVec.getMsbD_eq_getLsbD, hj] using htop

/-- Settles O37: every entry loads the limit, and each wrong sample spends one poll until the last fails. -/
theorem boundedBitWaitsFailAtTheirLimit : Obligations.BoundedBitWaitsFailAtTheirLimit := by
  refine ⟨rfl, fun p l hl hpos => ⟨fun b => ⟨?_, ?_, fun hb => ?_⟩, ?_⟩⟩
  · rw [Block.ackCRule, Block.await, if_pos rfl, Block.loadBitWait_some hl]
    exact ⟨rfl, rfl⟩
  · rw [Block.bitHighRule_rise_bounded hl]
    exact ⟨rfl, rfl⟩
  · rw [Block.bitLowRule_fall_more_bounded hl hb]
    exact ⟨rfl, rfl⟩
  · rintro b m rfl
    have hhigh : Block.bitHighRule p false = Block.missedPoll := funext fun _ => Block.bitHighRule_low_bounded hl
    have hlow : Block.bitLowRule p true = Block.missedFall := funext fun _ => Block.bitLowRule_high_bounded hl
    rw [hhigh, hlow]
    constructor
    · intro hm
      exact ⟨Block.iterate_missed (fun _ => Block.missedPoll_more) b hm,
        Block.iterate_missed (fun _ => Block.missedFall_more) b hm⟩
    · intro hm
      rw [Block.iterate_missed_last (fun _ => Block.missedPoll_more) b (hm ▸ hpos) hm,
        Block.iterate_missed_last (fun _ => Block.missedFall_more) b (hm ▸ hpos) hm]
      exact ⟨Block.missedPoll_last rfl, Block.missedFall_last rfl⟩

/-- Settles O32: CNT wraps by its width, and DLY, below 20000, does not. -/
theorem tickCountsTheTimerAndTheStartPulse : Obligations.TickCountsTheTimerAndTheStartPulse := by
  intro s
  have hexec : exec .tick s = .next (s.setBlk s.blk.tickRule) := rfl
  refine ⟨s.blk.tickRule.cnt, s.blk.tickRule.dly, ?_, ?_, ?_, ?_, ?_⟩
  · rw [hexec, Block.tickRule_eq]
    rfl
  all_goals rw [Block.tickRule_eq]
  · intro hrun
    simp [hrun]
  · intro hrun
    simp [hrun]
  · intro hs hlt
    rw [if_pos ⟨hs, hlt⟩]
    bv_omega
  · intro hstop
    rw [if_neg]
    rintro ⟨hs, hlt⟩
    exact hstop.elim (fun hne => hne hs) (fun hge => absurd hlt (Nat.not_lt.2 hge))

/-- Settles O33, by what 0, the threshold, its successor and the largest value are as numbers. -/
theorem classifyIsStrictAndUnsigned : Obligations.ClassifyIsStrictAndUnsigned := by
  intro threshold t
  refine ⟨classify_iff, classify_false_iff.2 (Nat.zero_le _), classify_false_iff.2 le_rfl, fun hlt => ?_, ?_⟩
  · rw [classify_iff]
    bv_omega
  · exact classify_false_iff.2 (Nat.le_of_lt_succ t.isLt)

/-- Settles O35: the rise starts the timer, and a low sample is R143's missed poll where there is a limit. -/
theorem bitHighStepStartsTheTimerOnTheRise : Obligations.BitHighStepStartsTheTimerOnTheRise := by
  intro s
  have hexec : exec .stepBitHigh s = .next (s.sampled.setBlk (Block.bitHighRule Config.hw s.sampleLevel s.blk)) := rfl
  refine ⟨fun hv => ?_, fun hv => ?_, fun h hs => ?_, fun p l hl => ⟨?_, fun hp => ?_, fun hp => ?_⟩⟩
  · rw [hexec, hv]
    rfl
  · rw [hexec, hv]
    rfl
  · exact ⟨h.freshCount hs, h.run_off (by simp [hs])⟩
  · exact Block.bitHighRule_rise_bounded hl
  · exact (Block.bitHighRule_low_bounded hl).trans (Block.missedPoll_more hp)
  · exact (Block.bitHighRule_low_bounded hl).trans (Block.missedPoll_last hp)

/-- Settles O36: the fall takes the bit and goes on to the next one, or after the 40th to CHECK. -/
theorem bitLowStepTakesTheBitOnTheFall : Obligations.BitLowStepTakesTheBitOnTheFall := by
  intro s
  have hexec : exec .stepBitLow s = .next (s.sampled.setBlk (Block.bitLowRule Config.hw s.sampleLevel s.blk)) := rfl
  refine ⟨fun hv => ?_, fun hv hb => ?_, fun hv hb => ?_, fun h hs => ?_,
    fun p l hl => ⟨fun hb => ?_, fun hp => ?_, fun hp => ?_⟩⟩
  · rw [hexec, hv]
    rfl
  · rw [hexec, hv, Block.bitLowRule_fall_more hb]
    rfl
  · have hcount : s.blk.bitidx + 1 = 40#6 := by rw [hb]; rfl
    rw [hexec, hv, Block.bitLowRule_fall_last hb, ← hcount]
    rfl
  · exact h.bitsMissing (.inr hs)
  · rw [Block.bitLowRule_fall_more_bounded hl hb]
    rfl
  · exact (Block.bitLowRule_high_bounded hl).trans (Block.missedFall_more hp)
  · exact (Block.bitLowRule_high_bounded hl).trans (Block.missedFall_last hp)

end Sys2Proof.Machine

/-! Checksum and completion (43_checksum_and_completion.md): the bytes of a buffer, what the CHECK and DONE steps do,
that a failed read shows no data, and that every transaction ends ready for the next. -/

namespace Sys2Proof.Machine

/-! ### Bytes of a buffer and of the data registers (R181, R183) -/

/-- Eight bits above an appended byte are the bits of the left part. -/
theorem extractByte_append {w : Nat} (x : BitVec w) (y : Byte) (n : Nat) :
    (x ++ y).extractLsb' (n + 8) 8 = x.extractLsb' n 8 :=
  BitVec.extractLsb'_append_eq_of_le (Nat.le_add_left 8 n)

/-- The lanes of four appended bytes, the rightmost lowest (20_memory.md R64). -/
theorem byteLane_append (a b c d : Byte) :
    byteLane 0 (a ++ b ++ c ++ d) = d ∧ byteLane 1 (a ++ b ++ c ++ d) = c ∧
    byteLane 2 (a ++ b ++ c ++ d) = b ∧ byteLane 3 (a ++ b ++ c ++ d) = a := by
  have lane1 := extractByte_append (a ++ b ++ c) d 0
  have lane2 := (extractByte_append (a ++ b ++ c) d 8).trans (extractByte_append (a ++ b) c 0)
  have lane3 := (extractByte_append (a ++ b ++ c) d 16).trans <|
    (extractByte_append (a ++ b) c 8).trans (extractByte_append a b 0)
  exact ⟨BitVec.extractLsb'_append_eq_right, lane1.trans BitVec.extractLsb'_append_eq_right,
    lane2.trans BitVec.extractLsb'_append_eq_right, lane3.trans BitVec.extractLsb'_eq_self⟩

/-- Bytes 0 to 3 of a buffer are the lanes of its upper word, the highest first. -/
theorem byteK_append {k : Nat} (hk : k < 4) (x : Word) (y : Byte) : byteK k (x ++ y) = byteLane (3 - k) x := by
  have hplace : 32 - 8 * k = 8 * (3 - k) + 8 := by omega
  rw [byteK, hplace]
  exact extractByte_append x y (8 * (3 - k))

/-- DONE puts byte `k` of the buffer on lane `k` of DATA0 (20_memory.md R66). -/
theorem byteLane_readingLow (v : Buffer) {k : Nat} (hk : k < 4) : byteLane k (readingLow v) = byteK k v := by
  obtain ⟨lane0, lane1, lane2, lane3⟩ := byteLane_append (byteK 3 v) (byteK 2 v) (byteK 1 v) (byteK 0 v)
  match k, hk with
  | 0, _ => exact lane0
  | 1, _ => exact lane1
  | 2, _ => exact lane2
  | 3, _ => exact lane3

/-- DATA1 after DONE is byte 4 of the buffer under zeros (R183). -/
theorem readingHigh_eq_append (v : Buffer) : readingHigh v = 0#24 ++ byteK 4 v :=
  BitVec.setWidth_eq_append (by decide)

theorem checksumOk_iff {v : Buffer} : checksumOk v = true ↔ byteSum v % 256 = (byteK 4 v).toNat :=
  beq_iff_eq

/-! ### The invariant at the end of a transaction (R187, R188) -/

/-- Only RESULT = OK goes with a reading. -/
theorem Block.Inv.no_reading {b : Block} (h : b.Inv) (hr : b.result ≠ Res.ok) :
    b.valid = false ∧ b.data0 = 0 ∧ b.data1 = 0 := by
  have hval : b.valid = false := Bool.eq_false_of_not_eq_true fun hv => hr (h.item8 hv).2.1
  exact ⟨hval, h.item9 hval⟩

/-- A configured block at rest drives the idle line and accepts a READ. -/
theorem Block.Resting.acceptsRead {s : State} (h : s.blk.Resting) (hi : s.blk.initialized = true) :
    s.blk.lineOe = true ∧ s.blk.lineOut = true ∧ ∃ u, exec .wrRead s = .next u ∧ u.blk.state = St.start := by
  obtain ⟨-, hoe, hout⟩ := h.configured hi
  refine ⟨hoe, hout, _, exec_wrRead_idle h.idle, ?_⟩
  rw [Block.startRead_accepted hi]
  rfl

/-! ### The obligations of checksum and completion -/

/-- Settles O40: a buffer is its upper word, whose lanes are bytes 0 to 3, and byte 4. -/
theorem checksumIsTheByteSum : Obligations.ChecksumIsTheByteSum := by
  intro b0 b1 b2 b3 b4
  obtain ⟨lane0, lane1, lane2, lane3⟩ := byteLane_append b0 b1 b2 b3
  have byte0 := (byteK_append (k := 0) (by decide) (b0 ++ b1 ++ b2 ++ b3) b4).trans lane3
  have byte1 := (byteK_append (k := 1) (by decide) (b0 ++ b1 ++ b2 ++ b3) b4).trans lane2
  have byte2 := (byteK_append (k := 2) (by decide) (b0 ++ b1 ++ b2 ++ b3) b4).trans lane1
  have byte3 := (byteK_append (k := 3) (by decide) (b0 ++ b1 ++ b2 ++ b3) b4).trans lane0
  have byte4 : byteK 4 (b0 ++ b1 ++ b2 ++ b3 ++ b4) = b4 := BitVec.extractLsb'_append_eq_right
  refine ⟨byte0, byte1, byte2, byte3, byte4, ?_⟩
  rw [checksumOk_iff, byteSum, byte0, byte1, byte2, byte3, byte4]

/-- Settles O49: every reachable state meets the invariant, which ties RESULT to the reading and to SHIFT. -/
theorem failedReadsNeverShowData : Obligations.FailedReadsNeverShowData := by
  intro s hs
  have h : s.blk.Inv := hs.elim Reachable.inv id
  constructor
  · intro hfailed
    apply h.no_reading
    rcases hfailed with e | e | e <;> simp [e]
  · rintro (e | e)
    · exact (h.timeoutReported e).2
    · exact (h.checksumReported e).2

/-- Settles O50: both steps end in a block at rest, which is still configured. -/
theorem idleLineAfterEveryTransactionAllowsARetry : Obligations.IdleLineAfterEveryTransactionAllowsARetry := by
  intro s h
  have hinit {c : Code} (hs : s.blk.state = c) (hc : c ≠ St.idle) : s.blk.initialized = true :=
    (h.transacting (hs ▸ hc)).initialized
  constructor <;> intro hs
  · have hrest : (s.setBlk s.blk.doneRule).blk.Resting := h.doneRule hs
    obtain ⟨hoe, hout, u, hread, hstart⟩ := hrest.acceptsRead (hinit hs (by decide))
    exact ⟨_, u, rfl, hoe, hout, hread, hstart⟩
  · have hlegal : Res.reserved s.blk.pend = false := by
      rcases h.legalPend with e | e | e <;> rw [e] <;> rfl
    have hrest : (s.setBlk s.blk.endError).blk.Resting := h.endError hs
    obtain ⟨hoe, hout, u, hread, hstart⟩ := hrest.acceptsRead (hinit hs (by decide))
    exact ⟨_, u, exec_stepError_legal hlegal, hoe, hout, hread, hstart⟩

/-- Settles O42, by the two branches of R182. -/
theorem checkStepComparesTheChecksum : Obligations.CheckStepComparesTheChecksum := by
  intro s
  have hexec : exec .stepCheck s = .next (s.setBlk s.blk.checkRule) := rfl
  rw [hexec]
  rcases s.blk.checkRule_cases with ⟨hsum, e⟩ | ⟨hsum, e⟩ <;> rw [e, hsum]
  · exact ⟨fun _ => rfl, fun hne => absurd hne (by decide)⟩
  · exact ⟨fun heq => absurd heq (by decide), fun _ => rfl⟩

/-- Settles O43: the lanes of the two words that R183 writes. -/
theorem doneStepPublishesTheReading : Obligations.DoneStepPublishesTheReading := by
  intro s
  refine ⟨readingLow s.blk.shift, readingHigh s.blk.shift, rfl, fun k hk => byteLane_readingLow s.blk.shift hk, ?_⟩
  rw [readingHigh_eq_append]
  exact ⟨BitVec.extractLsb'_append_eq_right, BitVec.extractLsb'_append_eq_left⟩

end Sys2Proof.Machine

/-! Exceptions (60_exceptions.md): the unbounded-wait hang of R215 and the order of INIT's faults of R204. -/

namespace Sys2Proof.Machine

/-! ### The unbounded bit waits (R215) -/

/-- The block is in a bit wait that does not await `wrong`: BIT_HIGH awaits a 1, BIT_LOW a 0 (R164, R165). -/
def Block.HangsOn (b : Block) (wrong : Bool) : Prop :=
  b.state = St.bitHigh ∧ wrong = false ∨ b.state = St.bitLow ∧ wrong = true

section
variable {b : Block} {wrong : Bool} (h : b.HangsOn wrong)
include h

/-- A bit wait is part of a transaction. -/
theorem Block.HangsOn.state_ne_idle : b.state ≠ St.idle := by
  rcases h with ⟨hs, -⟩ | ⟨hs, -⟩ <;> simp [hs]

/-- The wait looks at STATE alone. -/
theorem Block.HangsOn.of_state {b' : Block} (hs : b'.state = b.state) : b'.HangsOn wrong := by
  rwa [Block.HangsOn, hs]

/-- The ENGINE step of an unbounded bit wait changes nothing on the wrong level. -/
theorem Block.HangsOn.engine_keeps {i : Instr} (hi : decodeState b.state = .ok i) : blockEffect i wrong b = b := by
  rcases h with ⟨hs, rfl⟩ | ⟨hs, rfl⟩ <;> rw [hs] at hi <;> cases hi
  · exact Block.bitHighRule_hw false b
  · exact Block.bitLowRule_hw true b

end

/-- A step that is no RESET and samples only the wrong level leaves STATE and RESULT of a bit wait. -/
theorem step_feed_hang {s t : State} {x : Input} {v wrong : Bool} (h : step (s.feed x v) = .next t)
    (hx : x ≠ .reset) (hw : s.blk.HangsOn wrong) (hv : x = .engine → v = wrong) :
    t.blk.state = s.blk.state ∧ t.blk.result = s.blk.result := by
  rcases step_feed_busy h hx hw.state_ne_idle with ⟨hengine, i, hi, e⟩ | ⟨-, e⟩ | ⟨-, -, e⟩
  · rw [e, hv hengine, hw.engine_keeps hi]
    exact ⟨rfl, rfl⟩
  · rw [e, Block.tickRule_eq]
    exact ⟨rfl, rfl⟩
  · exact ⟨Block.of_unstaged Block.state (fun _ => rfl) e, Block.of_unstaged Block.result (fun _ => rfl) e⟩

/-- A bit wait lasts along a run without RESET whose ENGINE steps sample only the wrong level. -/
theorem Run.hang {r : Nat → State} {xs : Nat → Input} {vs : Nat → Bool} {n : Nat} {wrong : Bool}
    (hrun : Run r xs vs n) (h0 : (r 0).blk.HangsOn wrong) (hreset : ∀ k, k < n → xs k ≠ .reset)
    (hwrong : ∀ k, k < n → xs k = .engine → vs k = wrong) :
    (r n).blk.state = (r 0).blk.state ∧ (r n).blk.result = (r 0).blk.result := by
  induction n with
  | zero => exact ⟨rfl, rfl⟩
  | succ n ih =>
    obtain ⟨hs, hres⟩ :=
      ih (fun k hk => hrun k (by omega)) (fun k hk => hreset k (by omega)) (fun k hk => hwrong k (by omega))
    obtain ⟨hs', hres'⟩ := step_feed_hang (hrun n n.lt_succ_self) (hreset n n.lt_succ_self) (h0.of_state hs)
      (hwrong n n.lt_succ_self)
    exact ⟨hs'.trans hs, hres'.trans hres⟩

/-! ### The obligations of the exceptions -/

/-- Settles O52: on the wrong level only RESET moves a bit wait, and RESULT is NONE throughout a transaction. -/
theorem unboundedBitWaitsOutlastEveryHostCommand : Obligations.UnboundedBitWaitsOutlastEveryHostCommand := by
  rintro r xs vs n c wrong hrun hwait rfl hreset hwrong
  have h0 : (r 0).blk.HangsOn wrong := hwait
  obtain ⟨hs, hres⟩ := hrun.hang h0 hreset hwrong
  exact ⟨hs, hres, fun hinv => hres.trans (hinv.transacting h0.state_ne_idle).noResult, _, rfl, rfl⟩

/-- Settles O19: INIT validates after it clears the reading, and each fault is its branch of the validation. -/
theorem initReportsTheFirstConfigurationFault : Obligations.InitReportsTheFirstConfigurationFault :=
  ⟨fun _ hs => exec_wrInit_idle hs, fun _ b =>
    ⟨Block.validateAndConfigure_invalidPort (b := b.clearReading),
      Block.validateAndConfigure_invalidTimer (b := b.clearReading),
      Block.validateAndConfigure_zeroTimeout (b := b.clearReading)⟩⟩

end Sys2Proof.Machine

/-! The encoding (30_encoding.md): which fields select which instruction, the rows of the opcode table by the fields
they fix, and the words of the assembler. -/

namespace Sys2Proof

open Machine

/-! ### The fields that select an instruction (R81, R84, R85) -/

theorem isReservedOffset_iff {off : Offset} :
    isReservedOffset off = true ↔ off = Off.rsvd18 ∨ off = Off.rsvd1C := by
  simp [isReservedOffset]

section
variable {off : Offset} (we : Bool) (data : Word)

theorem decodeFields_misaligned01 (h : offsetLow off = 1) :
    decodeFields we off data = .misaligned01 we off data :=
  if_pos h

theorem decodeFields_misaligned10 (h : offsetLow off = 2) :
    decodeFields we off data = .misaligned10 we off data := by
  simp [decodeFields, h]

theorem decodeFields_misaligned11 (h : offsetLow off = 3) :
    decodeFields we off data = .misaligned11 we off data := by
  simp [decodeFields, h]

theorem decodeFields_reserved (h : isReservedOffset off = true) :
    decodeFields we off data = if we then .wrRsvd off data else .rdRsvd off := by
  rcases isReservedOffset_iff.1 h with rfl | rfl <;> rfl

end

/-- R81's four cases of OFF[1:0]. -/
theorem offsetLow_cases : ∀ off : Offset,
    offsetLow off = 0 ∨ offsetLow off = 1 ∨ offsetLow off = 2 ∨ offsetLow off = 3 := by
  decide

/-- The aligned offsets: R85's six registers and the reserved ones. -/
theorem aligned_cases : ∀ {off : Offset}, offsetLow off = 0 →
    off = Off.ctrl ∨ off = Off.status ∨ off = Off.config ∨ off = Off.timeout ∨ off = Off.data0 ∨ off = Off.data1 ∨
    isReservedOffset off = true := by
  decide

/-- Settles O1: a host operation is told by its fields, an ENGINE step by its STATE code, an event by its name. -/
theorem decodeOfEncodeIsTheInstruction : Obligations.DecodeOfEncodeIsTheInstruction := by
  intro i hwf
  cases i with
  | rdRsvd off => exact (decode_howWord _ _ _).trans (congrArg _ (decodeFields_reserved false 0 hwf))
  | wrRsvd off data => exact (decode_howWord _ _ _).trans (congrArg _ (decodeFields_reserved true data hwf))
  | misaligned01 we off data =>
    exact (decode_howWord _ _ _).trans (congrArg _ (decodeFields_misaligned01 we data (beq_iff_eq.1 hwf)))
  | misaligned10 we off data =>
    exact (decode_howWord _ _ _).trans (congrArg _ (decodeFields_misaligned10 we data (beq_iff_eq.1 hwf)))
  | misaligned11 we off data =>
    exact (decode_howWord _ _ _).trans (congrArg _ (decodeFields_misaligned11 we data (beq_iff_eq.1 hwf)))
  | rdCtrl | rdStatus | rdConfig | rdTimeout | rdData0 | rdData1 | wrNop | wrInit | wrRead | wrCmdRsvd | wrStatus
  | wrConfig | wrTimeout | wrData0 | wrData1 => exact decode_howWord _ _ _
  | stepIdle | stepStart | stepAckA | stepAckB | stepAckC | stepBitHigh | stepBitLow | stepCheck | stepDone
  | stepError | tick | reset => rfl

/-! ### Words by their fields (R80) -/

/-- A word under two zero bits is put together from its fields. -/
theorem howWord_fields {w : HowWord} (h : howTop w = 0) : howWord (howWe w) (howOff w) (howData w) = w := by
  apply BitVec.eq_of_getLsbD_eq
  intro i hi
  have htop (k : Nat) : (howTop w).getLsbD k = false := by simp [h]
  have h38 := htop 0
  have h39 := htop 1
  simp only [howTop, BitVec.getLsbD_extractLsb'] at h38 h39
  rw [howWord_getLsbD]
  simp only [howData, howOff, howWe, BitVec.getLsbD_extractLsb']
  split_ifs with h1 h2 h3
  · simp [h1]
  · simp [h2, show 32 + (i - 32) = i by omega]
  · obtain rfl : i = 37 := by omega
    simp
  · obtain rfl | rfl : i = 38 ∨ i = 39 := by omega
    · simpa using h38.symm
    · simpa using h39.symm

theorem howWord_and (we we' : Bool) (off off' : Offset) (data data' : Word) :
    howWord we off data &&& howWord we' off' data' = howWord (we && we') (off &&& off') (data &&& data') := by
  apply BitVec.eq_of_getLsbD_eq
  intro i hi
  simp only [BitVec.getLsbD_and, howWord_getLsbD]
  split_ifs
  · rfl
  · rfl
  · cases we <;> cases we' <;> simp
  · rfl

theorem howWord_inj {we we' : Bool} {off off' : Offset} {data data' : Word} :
    howWord we off data = howWord we' off' data' ↔ we = we' ∧ off = off' ∧ data = data' := by
  constructor
  · intro h
    have hwe := congrArg howWe h
    have hoff := congrArg howOff h
    have hdata := congrArg howData h
    simp only [howWe_howWord, howOff_howWord, howData_howWord] at hwe hoff hdata
    exact ⟨hwe, hoff, hdata⟩
  · rintro ⟨rfl, rfl, rfl⟩
    rfl

/-! ### The rows of the opcode table by the fields they fix (R81, R85) -/

/-- The row of a register: WE and OFF are fixed. -/
def registerRow (we : Bool) (off : Offset) : Row := ⟨howWord we off 0, howWord true 0x1F 0⟩

/-- The row of a command: a write to CTRL with DATA[1:0] fixed. -/
def commandRow (c : BitVec 2) : Row := ⟨howWord true Off.ctrl (c.setWidth 32), howWord true 0x1F 3⟩

/-- The row of the reserved offsets: WE is fixed, and OFF but for its bit 2. -/
def reservedRow (we : Bool) : Row := ⟨howWord we Off.rsvd18 0, howWord true 0x1B 0⟩

/-- The row of the misaligned offsets with OFF[1:0] fixed. -/
def misalignedRow (k : BitVec 2) : Row := ⟨howWord false (k.setWidth 5) 0, howWord false 3 0⟩

/-- A register that has a row of its own: neither misaligned nor reserved, and for a write not CTRL. -/
def isRegister (we : Bool) (off : Offset) : Bool :=
  offsetLow off == 0 && !isReservedOffset off && !(we && off == Off.ctrl)

theorem isRegister_iff : ∀ {we : Bool} {off : Offset}, isRegister we off = true ↔
    ¬ offsetLow off ≠ 0 ∧ ¬ isReservedOffset off = true ∧ ¬ (we && off == Off.ctrl) = true := by
  decide

/-- The table has these rows of format HOSTOP and no other. -/
theorem mem_hostRows (q : Row) : q ∈ hostRows ↔
    (∃ we off, isRegister we off = true ∧ q = registerRow we off) ∨ (∃ c, q = commandRow c) ∨
    (∃ we, q = reservedRow we) ∨ ∃ k, k ≠ 0 ∧ q = misalignedRow k := by
  constructor
  · revert q
    decide
  · have hregister : ∀ we off, isRegister we off = true → registerRow we off ∈ hostRows := by decide
    have hcommand : ∀ c, commandRow c ∈ hostRows := by decide
    have hreserved : ∀ we, reservedRow we ∈ hostRows := by decide
    have hmisaligned : ∀ k, k ≠ 0 → misalignedRow k ∈ hostRows := by decide
    rintro (⟨we, off, h, rfl⟩ | ⟨c, rfl⟩ | ⟨we, rfl⟩ | ⟨k, h, rfl⟩)
    · exact hregister we off h
    · exact hcommand c
    · exact hreserved we
    · exact hmisaligned k h

section
variable {we : Bool} {off : Offset} {data : Word}

theorem matches_howWord {we₁ we₂ : Bool} {off₁ off₂ : Offset} {data₁ data₂ : Word} :
    Row.matches ⟨howWord we₁ off₁ data₁, howWord we₂ off₂ data₂⟩ (howWord we off data) = true ↔
      (we && we₂) = we₁ ∧ off &&& off₂ = off₁ ∧ data &&& data₂ = data₁ := by
  rw [Row.matches, beq_iff_eq, howWord_and, howWord_inj]

theorem registerRow_matches {we' : Bool} {off' : Offset} :
    (registerRow we' off').matches (howWord we off data) = true ↔ we = we' ∧ off = off' := by
  have hall : off &&& 0x1F = off := BitVec.and_allOnes
  rw [registerRow, matches_howWord, hall]
  simp

theorem commandRow_matches {c : BitVec 2} :
    (commandRow c).matches (howWord we off data) = true ↔ we = true ∧ off = Off.ctrl ∧ cmdField data = c := by
  have hall : off &&& 0x1F = off := BitVec.and_allOnes
  have hlow : data &&& 3 = c.setWidth 32 ↔ cmdField data = c := by
    rw [← BitVec.toNat_inj, ← BitVec.toNat_inj]
    have hmod : data.toNat &&& 3 = data.toNat % 4 := Nat.and_two_pow_sub_one_eq_mod _ 2
    have hc : c.toNat % 4294967296 = c.toNat := by omega
    simp [cmdField, hmod, hc]
  rw [commandRow, matches_howWord, hall, hlow]
  simp

theorem reservedRow_matches {we' : Bool} :
    (reservedRow we').matches (howWord we off data) = true ↔ we = we' ∧ isReservedOffset off = true := by
  have hoff : ∀ off : Offset, off &&& 0x1B = Off.rsvd18 ↔ isReservedOffset off = true := by decide
  rw [reservedRow, matches_howWord, hoff]
  simp

theorem misalignedRow_matches {k : BitVec 2} :
    (misalignedRow k).matches (howWord we off data) = true ↔ offsetLow off = k := by
  have hoff : ∀ (off : Offset) (k : BitVec 2), off &&& 3 = k.setWidth 5 ↔ offsetLow off = k := by decide
  rw [misalignedRow, matches_howWord, hoff]
  simp

end

/-! ### The one row that a word matches (R81) -/

/-- The row that the fields of a word select. -/
def selectedRow (we : Bool) (off : Offset) (data : Word) : Row :=
  if offsetLow off ≠ 0 then misalignedRow (offsetLow off)
  else if isReservedOffset off then reservedRow we
  else if we && off == Off.ctrl then commandRow (cmdField data)
  else registerRow we off

section
variable (we : Bool) (off : Offset) (data : Word)

theorem selectedRow_mem : selectedRow we off data ∈ hostRows := by
  rw [mem_hostRows, selectedRow]
  split_ifs with hlow hres hctrl
  · exact .inr (.inr (.inr ⟨_, hlow, rfl⟩))
  · exact .inr (.inr (.inl ⟨_, rfl⟩))
  · exact .inr (.inl ⟨_, rfl⟩)
  · exact .inl ⟨_, _, isRegister_iff.2 ⟨hlow, hres, hctrl⟩, rfl⟩

theorem selectedRow_matches : (selectedRow we off data).matches (howWord we off data) = true := by
  rw [selectedRow]
  split_ifs with hlow hres hctrl
  · exact misalignedRow_matches.2 rfl
  · exact reservedRow_matches.2 ⟨rfl, hres⟩
  · obtain ⟨hwe, hoff⟩ := Bool.and_eq_true_iff.1 hctrl
    exact commandRow_matches.2 ⟨hwe, beq_iff_eq.1 hoff, rfl⟩
  · exact registerRow_matches.2 ⟨rfl, rfl⟩

variable {we off data}

theorem eq_selectedRow {q : Row} (hq : q ∈ hostRows) (hm : q.matches (howWord we off data) = true) :
    q = selectedRow we off data := by
  rcases (mem_hostRows q).1 hq with ⟨we', off', hreg, rfl⟩ | ⟨c, rfl⟩ | ⟨we', rfl⟩ | ⟨k, hk, rfl⟩
  · obtain ⟨rfl, rfl⟩ := registerRow_matches.1 hm
    obtain ⟨hlow, hres, hctrl⟩ := isRegister_iff.1 hreg
    rw [selectedRow, if_neg hlow, if_neg hres, if_neg hctrl]
  · obtain ⟨rfl, rfl, rfl⟩ := commandRow_matches.1 hm
    rfl
  · obtain ⟨rfl, hres⟩ := reservedRow_matches.1 hm
    rcases isReservedOffset_iff.1 hres with rfl | rfl <;> rfl
  · obtain rfl := misalignedRow_matches.1 hm
    exact (if_pos hk).symm

end

/-- A write to CTRL has the row of its command. -/
theorem decodeCommand_row (data : Word) :
    (decodeCommand data).wf = true ∧ (decodeCommand data).row = some (commandRow (cmdField data)) := by
  have hcodes : ∀ c : BitVec 2, c = Cmd.nop ∨ c = Cmd.init ∨ c = Cmd.read ∨ c = Cmd.rsvd := by decide
  unfold decodeCommand
  rcases hcodes (cmdField data) with e | e | e | e <;> rw [e] <;> exact ⟨rfl, rfl⟩

/-- An instruction decoded from a word's fields is well-formed and has the row that they select. -/
theorem decodeFields_row (we : Bool) (off : Offset) (data : Word) :
    (decodeFields we off data).wf = true ∧ (decodeFields we off data).row = some (selectedRow we off data) := by
  rcases offsetLow_cases off with h | h | h | h
  · rcases aligned_cases h with rfl | rfl | rfl | rfl | rfl | rfl | hres
    · cases we
      · exact ⟨rfl, rfl⟩
      · exact decodeCommand_row data
    iterate 5 cases we <;> exact ⟨rfl, rfl⟩
    · rcases isReservedOffset_iff.1 hres with rfl | rfl <;> cases we <;> exact ⟨rfl, rfl⟩
  · rw [decodeFields_misaligned01 we data h, selectedRow, h]
    exact ⟨beq_iff_eq.2 h, rfl⟩
  · rw [decodeFields_misaligned10 we data h, selectedRow, h]
    exact ⟨beq_iff_eq.2 h, rfl⟩
  · rw [decodeFields_misaligned11 we data h, selectedRow, h]
    exact ⟨beq_iff_eq.2 h, rfl⟩

/-! ### The obligations of the encoding -/

/-- Settles O2: a word is its fields, which select one row, and the decoded instruction has that row. -/
theorem everyHostWordDecodesToExactlyItsTableRow : Obligations.EveryHostWordDecodesToExactlyItsTableRow := by
  intro w htop
  rw [← howWord_fields htop]
  obtain ⟨hwf, hrow⟩ := decodeFields_row (howWe w) (howOff w) (howData w)
  exact ⟨_, _, decode_howWord _ _ _, hwf, hrow, selectedRow_mem _ _ _, selectedRow_matches _ _ _,
    fun _ hq hm => eq_selectedRow hq hm⟩

/-- Settles O3: DATA is an operand of writes and of misaligned accesses alone, and of a write to CTRL only CMD is
looked at. -/
theorem ignoredDataBitsDoNotChangeTheDecoding : Obligations.IgnoredDataBitsDoNotChangeTheDecoding := by
  constructor
  · intro off d d' h
    rw [decode_howWord, decode_howWord]
    rcases aligned_cases h with rfl | rfl | rfl | rfl | rfl | rfl | hres
    iterate 6 rfl
    · rw [decodeFields_reserved false d hres, decodeFields_reserved false d' hres]
      rfl
  · intro d
    have hcommand : decode (.hostop (howWord true Off.ctrl d)) = .ok (decodeCommand d) := decode_howWord _ _ _
    rw [decodeCommand] at hcommand
    refine ⟨fun h => ?_, fun h => ?_, fun h => ?_, fun h => ?_⟩ <;> refine hcommand.trans ?_ <;>
      rw [show cmdField d = _ from h] <;> rfl

/-- Settles O4, by running the decoder on each word. -/
theorem wordsOfTheSpecDecodeAsItSays : Obligations.WordsOfTheSpecDecodeAsItSays :=
  ⟨rfl, rfl, rfl, rfl, rfl, rfl, rfl, rfl, rfl, rfl, rfl⟩

/-! ### The words of the assembler (R90, R91) -/

theorem howWord_toNat (we : Bool) (off : Offset) (data : Word) :
    (howWord we off data).toNat = we.toNat * 2 ^ 37 + off.toNat * 2 ^ 32 + data.toNat := by
  have hoff : (0#2 ++ BitVec.ofBool we ++ off).toNat = we.toNat * 2 ^ 5 + off.toNat := by
    rw [BitVec.toNat_append, ← Nat.shiftLeft_add_eq_or_of_lt off.isLt, Nat.shiftLeft_eq]
    cases we <;> rfl
  have hdata : (howWord we off data).toNat = (0#2 ++ BitVec.ofBool we ++ off).toNat <<< 32 ||| data.toNat :=
    BitVec.toNat_append _ _
  rw [hdata, ← Nat.shiftLeft_add_eq_or_of_lt data.isLt, Nat.shiftLeft_eq, hoff]
  omega

/-- `SETCFG p, t` writes CONFIG with the two identifiers side by side. -/
theorem asmSetCfg_eq (p t : Byte) : asmSetCfg p t = howWord true Off.config ((t ++ p).setWidth 32) := by
  refine congrArg (howWord true Off.config) ?_
  apply BitVec.eq_of_getLsbD_eq
  intro i hi
  simp only [BitVec.getLsbD_or, BitVec.getLsbD_shiftLeft, BitVec.getLsbD_setWidth, BitVec.getLsbD_append]
  by_cases h : i < 8
  · simp [h, hi]
  · have hp : p.getLsbD i = false := p.getLsbD_of_ge i (by omega)
    have hplace : i - 8 < 32 := by omega
    simp [h, hi, hp, hplace]

/-- Settles O5: a word is the sum of its shifted fields, and CONFIG's are the two identifiers. -/
theorem assemblerWordsAreTheOperationsTheyName : Obligations.AssemblerWordsAreTheOperationsTheyName := by
  refine ⟨fun p t => ⟨?_, (t ++ p).setWidth 32, ?_, ?_, ?_⟩, fun n => ⟨?_, ?_⟩, fun r => ?_, fun r v => ?_,
    rfl, rfl, rfl⟩
  · rw [asmSetCfg_eq, howWord_toNat, BitVec.toNat_setWidth_of_le (by decide), BitVec.toNat_append,
      ← Nat.shiftLeft_add_eq_or_of_lt p.isLt, Nat.shiftLeft_eq, Nat.mul_comm t.toNat]
    exact (Nat.add_assoc _ _ _).symm
  · rw [asmSetCfg_eq]
    exact decode_howWord _ _ _
  · rw [BitVec.extractLsb'_setWidth_of_le (by decide), BitVec.extractLsb'_append_eq_right]
  · rw [BitVec.extractLsb'_setWidth_of_le (by decide), BitVec.extractLsb'_append_eq_left]
  · exact howWord_toNat _ _ _
  · exact decode_howWord _ _ _
  · simp [asmRd, howWord_toNat]
  · simp [asmWr, howWord_toNat]

end Sys2Proof

/-! One step (10_state.md R21): what it depends on, which instruction it runs, and where it stops. -/

namespace Sys2Proof.Machine

/-! ### What a step runs -/

section
variable {s t : State} {raw : RawWord}

/-- A step runs the instruction that the word it fetches decodes to. -/
theorem step_of_decode {i : Instr} (hfetch : fetchWord s.nextInput s.blk = .ok raw) (hdec : decode raw = .ok i) :
    step s = exec i s.takeInput := by
  simp only [step, hfetch, hdec]

/-- A step stops where its word is no instruction. -/
theorem step_of_decodeError {e : DecodeError} (hfetch : fetchWord s.nextInput s.blk = .ok raw)
    (hdec : decode raw = .error e) : step s = stopOf e := by
  simp only [step, hfetch, hdec]

/-- A step is refused where its input fetches no word. -/
theorem step_of_fetchError {e : Refusal} (hfetch : fetchWord s.nextInput s.blk = .error e) : step s = .refused e := by
  simp only [step, hfetch]

/-- A step depends on the word it fetches and on the state with the input taken. -/
theorem step_congr (hfetch : fetchWord s.nextInput s.blk = fetchWord t.nextInput t.blk)
    (htake : s.takeInput = t.takeInput) : step s = step t := by
  simp only [step, hfetch, htake]

end

section
variable {s : State} {x : Input} {rest : List Input} (ha : s.agenda = x :: rest)
include ha

theorem State.nextInput_cons : s.nextInput = x := by
  rw [State.nextInput, ha]

theorem State.takeInput_cons : s.takeInput = { s with agenda := rest, draws := s.draws + 1 } := by
  rw [State.takeInput, ha, List.tail_cons]

/-- A pending input whose word decodes runs its instruction. -/
theorem step_pending {raw : RawWord} {i : Instr} (hfetch : fetchWord x s.blk = .ok raw) (hdec : decode raw = .ok i) :
    step s = exec i { s with agenda := rest, draws := s.draws + 1 } := by
  rw [← State.takeInput_cons ha]
  exact step_of_decode (State.nextInput_cons ha ▸ hfetch) hdec

end

/-! ### Accesses that are refused (20_memory.md R63) -/

/-- A misaligned host operation is refused, whatever else it says (40_host_interface.md R118). -/
theorem exec_decodeFields_misaligned {off : Offset} (h : offsetLow off ≠ 0) (we : Bool) (data : Word) (s : State) :
    exec (decodeFields we off data) s = .refused (.misalignedAccess we off) := by
  rcases offsetLow_cases off with h0 | h1 | h2 | h3
  · exact absurd h0 h
  · rw [decodeFields_misaligned01 we data h1]
    rfl
  · rw [decodeFields_misaligned10 we data h2]
    rfl
  · rw [decodeFields_misaligned11 we data h3]
    rfl

section
variable {a : BusAccess}

theorem busWord_width (h : a.bytes ≠ 4) : busWord a = .error (.unsupportedWidth a.bytes) := if_neg h

theorem busWord_outside (hb : a.bytes = 4) (h : a.addr < Config.base ∨ Config.base + 31 < a.addr) :
    busWord a = .error (.outsideWindow a.addr) :=
  (if_pos hb).trans (if_neg (by omega))

/-- BASE is a multiple of 32, so the offset of an address in the window is its low five bits (R61). -/
theorem busWord_inside (hb : a.bytes = 4) (hlow : Config.base ≤ a.addr) (hhigh : a.addr ≤ Config.base + 31) :
    busWord a =
      .ok (.hostop (howWord a.write (BitVec.ofNat 5 (a.addr % 32)) (if a.write then a.data else 0))) := by
  have hoff : a.addr - Config.base = a.addr % 32 := by
    unfold Config.base at hlow hhigh ⊢
    omega
  rw [← hoff]
  exact (if_pos hb).trans (if_pos ⟨hlow, hhigh⟩)

end

theorem offsetLow_ofNat {n : Nat} (h : n % 4 ≠ 0) : offsetLow (BitVec.ofNat 5 n) ≠ 0 := by
  intro he
  have hlow : (offsetLow (BitVec.ofNat 5 n)).toNat = n % 32 % 4 := by
    simp [offsetLow, BitVec.extractLsb'_toNat]
  have hzero : (offsetLow (BitVec.ofNat 5 n)).toNat = 0 := congrArg BitVec.toNat he
  omega

/-! ### Faults (93_implementation_defined.md section 2) -/

/-- A STATE code that selects no rule is reserved (30_encoding.md R86). -/
theorem decodeState_reserved {c : Code} (h : 10 ≤ c.toNat) : decodeState c = .error (.reservedState c) := by
  revert c
  decide

/-- Only a STATE code is refused as one. -/
theorem decode_reservedState {raw : RawWord} {c : Code} (h : decode raw = .error (.reservedState c)) :
    raw = .engineState c ∧ 10 ≤ c.toNat := by
  cases raw with
  | hostop w =>
    simp only [decode, decodeHow] at h
    split at h <;> cases h
  | engineState d =>
    have hcodes : ∀ c d : Code, decodeState d = .error (.reservedState c) → d = c ∧ 10 ≤ c.toNat := by decide
    obtain ⟨rfl, hc⟩ := hcodes c d h
    exact ⟨rfl, hc⟩
  | event e => cases e <;> cases h

/-- The only instruction that faults is the ERROR step, on a reserved PEND. -/
theorem exec_fault {i : Instr} {s : State} {f : Fault} (h : exec i s = .fault f) : Res.reserved s.blk.pend = true := by
  cases i
  case stepError =>
    by_contra hlegal
    rw [exec_stepError_legal (by simpa using hlegal)] at h
    cases h
  all_goals cases h

/-- A step faults on a reserved code of STATE or of PEND alone. -/
theorem step_fault {s : State} {f : Fault} (h : step s = .fault f) :
    10 ≤ s.blk.state.toNat ∨ Res.reserved s.blk.pend = true := by
  cases hfetch : fetchWord s.nextInput s.blk with
  | error e =>
    rw [step_of_fetchError hfetch] at h
    cases h
  | ok raw =>
    cases hdec : decode raw with
    | ok i =>
      rw [step_of_decode hfetch hdec] at h
      exact .inr (exec_fault (s := s.takeInput) h)
    | error e =>
      rw [step_of_decodeError hfetch hdec] at h
      cases e with
      | notAHostOperation w => cases h
      | reservedState c =>
        obtain ⟨rfl, hc⟩ := decode_reservedState hdec
        obtain ⟨-, rfl⟩ := fetchWord_engineState hfetch
        exact .inl hc

/-! ### The ENGINE steps that sample (10_state.md R24) -/

/-- STATE codes 2 to 6 select rules that take one sample. -/
theorem decodeState_samples {c : Code} (hlow : 2 ≤ c.toNat) (hhigh : c.toNat ≤ 6) :
    ∃ i rule, decodeState c = .ok i ∧ ∀ s, exec i s = s.sampleStep rule := by
  have hcodes : ∀ c : Code, 2 ≤ c.toNat → c.toNat ≤ 6 →
      c = St.ackA ∨ c = St.ackB ∨ c = St.ackC ∨ c = St.bitHigh ∨ c = St.bitLow := by decide
  rcases hcodes c hlow hhigh with rfl | rfl | rfl | rfl | rfl
  · exact ⟨.stepAckA, _, rfl, fun _ => rfl⟩
  · exact ⟨.stepAckB, _, rfl, fun _ => rfl⟩
  · exact ⟨.stepAckC, _, rfl, fun _ => rfl⟩
  · exact ⟨.stepBitHigh, _, rfl, fun _ => rfl⟩
  · exact ⟨.stepBitLow, _, rfl, fun _ => rfl⟩

/-- The other STATE codes select rules that act on the block alone, ERROR's where PEND is no reserved code. -/
theorem decodeState_without_sample {c : Code} (h : c.toNat < 2 ∨ 6 < c.toNat ∧ c.toNat ≤ 9) :
    ∃ i, decodeState c = .ok i ∧ ∀ s : State, Res.reserved s.blk.pend = false → ∃ b, exec i s = .next (s.setBlk b) := by
  have hcodes : ∀ c : Code, c.toNat < 2 ∨ 6 < c.toNat ∧ c.toNat ≤ 9 →
      c = St.idle ∨ c = St.start ∨ c = St.check ∨ c = St.done ∨ c = St.error := by decide
  rcases hcodes c h with rfl | rfl | rfl | rfl | rfl
  · exact ⟨.stepIdle, rfl, fun s _ => ⟨s.blk, rfl⟩⟩
  · exact ⟨.stepStart, rfl, fun _ _ => ⟨_, rfl⟩⟩
  · exact ⟨.stepCheck, rfl, fun _ _ => ⟨_, rfl⟩⟩
  · exact ⟨.stepDone, rfl, fun _ _ => ⟨_, rfl⟩⟩
  · exact ⟨.stepError, rfl, fun _ hp => ⟨_, exec_stepError_legal hp⟩⟩

theorem State.sampleLevel_cons {s : State} {v : Bool} {later : List Bool} (h : s.line = v :: later) :
    s.sampleLevel = v := by
  rw [State.sampleLevel, h]

/-! ### What a register read looks at (10_state.md R40) -/

theorem Block.SameVisible.statusWord {a b : Block} (h : a.SameVisible b) : a.statusWord = b.statusWord := by
  simp [Block.statusWord, Block.busy, h.state, h.bitidx, h.initialized, h.valid, h.result]

theorem Block.SameVisible.configWord {a b : Block} (h : a.SameVisible b) : a.configWord = b.configWord := by
  simp [Block.configWord, h.cfgPin, h.cfgTimer]

/-- An aligned read replies with a word of the visible elements and does nothing else. -/
theorem exec_alignedRead {off : Offset} (h : offsetLow off = 0) (data : Word) :
    ∃ value : Block → Word, (∀ a b, a.SameVisible b → value a = value b) ∧
      ∀ s, exec (decodeFields false off data) s = s.reply off (value s.blk) := by
  rcases aligned_cases h with rfl | rfl | rfl | rfl | rfl | rfl | hres
  · exact ⟨fun _ => 0, fun _ _ _ => rfl, fun _ => rfl⟩
  · exact ⟨Block.statusWord, fun _ _ hv => hv.statusWord, fun _ => rfl⟩
  · exact ⟨Block.configWord, fun _ _ hv => hv.configWord, fun _ => rfl⟩
  · exact ⟨Block.timeout, fun _ _ hv => hv.timeout, fun _ => rfl⟩
  · exact ⟨Block.data0, fun _ _ hv => hv.data0, fun _ => rfl⟩
  · exact ⟨Block.data1, fun _ _ hv => hv.data1, fun _ => rfl⟩
  · rw [decodeFields_reserved false data hres]
    exact ⟨fun _ => 0, fun _ _ _ => rfl, fun _ => rfl⟩

/-! ### The obligations of the step -/

/-- Settles O59: each rule leaves a block that is transacting or at rest. -/
theorem everyStepKeepsTheInvariant : Obligations.EveryStepKeepsTheInvariant :=
  fun _ _ => step_keeps_inv

/-- Settles O60: the reset values are those of a block at rest. -/
theorem invariantHoldsAtReset : Obligations.InvariantHoldsAtReset :=
  Block.reset_resting.inv

/-- Settles O9: the meanings of the three misaligned rows refuse, and a bus access is refused by its fetch or is a
misaligned host operation. -/
theorem unsupportedAccessesAreRefused : Obligations.UnsupportedAccessesAreRefused := by
  refine ⟨fun _ _ _ _ => ⟨rfl, rfl, rfl⟩, fun s rest we off data ha hoff => ?_, fun s rest a ha => ⟨?_, ?_, ?_⟩⟩
  · rw [step_pending ha rfl (decode_howWord we off data)]
    exact exec_decodeFields_misaligned hoff _ _ _
  · intro hb
    exact step_of_fetchError (State.nextInput_cons ha ▸ busWord_width hb)
  · intro hb hout
    exact step_of_fetchError (State.nextInput_cons ha ▸ busWord_outside hb hout)
  · intro hb hlow hhigh hoff
    rw [step_pending ha (busWord_inside hb hlow hhigh) (decode_howWord _ _ _)]
    exact exec_decodeFields_misaligned (offsetLow_ofNat (by omega)) _ _ _

/-- Settles O10: the invariant shuts out the reserved codes of STATE and of PEND. -/
theorem noStepFaultsUnderTheInvariant : Obligations.NoStepFaultsUnderTheInvariant := by
  intro s f hinv hfault
  rcases step_fault hfault with hs | hp
  · exact absurd hinv.item1 (by omega)
  · rcases hinv.legalPend with e | e | e <;> rw [e] at hp <;> cases hp

/-- Settles O14: every aligned read replies with a word of the visible elements. -/
theorem readsRevealOnlyTheVisibleState : Obligations.ReadsRevealOnlyTheVisibleState := by
  intro s s' off data i hv hhist hoff hdec
  obtain ⟨value, hvalue, hexec⟩ := exec_alignedRead hoff data
  rw [decode_howWord] at hdec
  cases hdec
  refine ⟨_, _, hexec s, hexec s', ?_, rfl, rfl⟩
  rw [State.record_history, State.record_history, hvalue _ _ hv, hhist]

/-- Settles O31: the rules of codes 2 to 6 take one sample, and the others none. -/
theorem engineSamplesExactlyOnceInSamplingStates : Obligations.EngineSamplesExactlyOnceInSamplingStates := by
  intro s rest v later ha hline hp
  constructor
  · intro hlow hhigh
    obtain ⟨i, rule, hi, hexec⟩ := decodeState_samples hlow hhigh
    have hlevel := State.sampleLevel_cons (s := { s with agenda := rest, draws := s.draws + 1 }) hline
    refine ⟨_, (step_pending ha (fetchWord_engine _) hi).trans (hexec _), congrArg List.tail hline, ?_⟩
    rw [State.setBlk_history, State.sampled_history, hlevel]
  · intro hs
    obtain ⟨i, hi, hexec⟩ := decodeState_without_sample hs
    have hlegal : Res.reserved s.blk.pend = false := decide_eq_false (by omega)
    obtain ⟨b, hb⟩ := hexec { s with agenda := rest, draws := s.draws + 1 } hlegal
    exact ⟨_, (step_pending ha (fetchWord_engine _) hi).trans hb, rfl, rfl⟩

/-- Settles O6: the pending input is the next one, and with none pending the free choice takes its place. -/
theorem stepRunsTheDecodedInstruction : Obligations.StepRunsTheDecodedInstruction := by
  refine ⟨fun s rest i ha hi => step_pending ha rfl hi, fun s rest w i ha hi => step_pending ha rfl hi,
    fun s rest ha => step_pending ha rfl rfl, fun s rest ha => step_pending ha rfl rfl, fun s ha => ?_⟩
  apply step_congr
  · rw [State.nextInput, ha]
    rfl
  · rw [State.takeInput, ha]
    rfl

/-- Settles O7, code by code; a code of 10 to 15 stops the step in the decoder. -/
theorem stateCodesSelectTheEngineRules : Obligations.StateCodesSelectTheEngineRules := by
  refine ⟨rfl, rfl, rfl, rfl, rfl, rfl, rfl, rfl, rfl, rfl, fun s rest ha hs => ?_⟩
  have hfetch : fetchWord s.nextInput s.blk = .ok (.engineState s.blk.state) :=
    State.nextInput_cons ha ▸ fetchWord_engine s.blk
  exact step_of_decodeError hfetch (decodeState_reserved hs)

/-- Settles O8: the access fetches the word that the host operation fetches. -/
theorem busAccessInTheWindowIsItsHostOperation : Obligations.BusAccessInTheWindowIsItsHostOperation := by
  intro s rest we off data ha
  have hoff : (Config.base + off.toNat) % 32 = off.toNat := by
    unfold Config.base
    omega
  apply step_congr
  · rw [State.nextInput_cons ha]
    refine (busWord_inside rfl (by simp) (by simp; omega)).trans ?_
    simp only [hoff, BitVec.ofNat_toNat, BitVec.setWidth_eq]
    rfl
  · rw [State.takeInput_cons ha]
    rfl

/-- Settles O44, by whether PEND is a reserved code. -/
theorem errorStepReportsAndRestoresTheLine : Obligations.ErrorStepReportsAndRestoresTheLine := fun _ =>
  ⟨fun hp => exec_stepError_legal (decide_eq_false (by omega)), fun hp => if_pos (decide_eq_true hp)⟩

/-- Settles O45: CHECK overwrites PEND on both, and the ERROR step overwrites SHIFT, where alone they differ. -/
theorem rejectedBufferLeavesNoTrace : Obligations.RejectedBufferLeavesNoTrace := by
  intro s v _ hs hv
  have hcheck (b : Block) (hb : checksumOk b.shift = false) :
      exec .stepCheck (s.setBlk b) = .next (s.setBlk (b.fail Res.rdChecksum)) :=
    (checkStepComparesTheChecksum (s.setBlk b)).2 hb
  exact ⟨_, _, _, hcheck s.blk hs, hcheck { s.blk with shift := v } hv, exec_stepError_legal rfl,
    exec_stepError_legal rfl⟩

/-- Settles O54: RESET writes the reset values, under which STATUS reads 0 and a READ is refused. -/
theorem resetSetsEveryElement : Obligations.ResetSetsEveryElement := by
  intro s
  have hstatus : Block.reset.statusWord = 0 := by decide
  refine ⟨s.setBlk Block.reset, rfl, rfl, ?_, ?_⟩
  · exact congrArg ((s.setBlk Block.reset).reply Off.status) hstatus
  · rw [exec_wrRead_idle rfl, Block.startRead_refused rfl]
    rfl

end Sys2Proof.Machine

/-! What each instruction may write (10_state.md R33 to R37), the transitions of STATE (30_encoding.md R92), and the
detection of single-bit errors (43_checksum_and_completion.md R182). -/

namespace Sys2Proof.Machine

/-! ### What each instruction may write -/

/-- The blocks an instruction may leave: the elements that it is named for may have any value, every other one is
unchanged (10_state.md R33 to R37). -/
inductive Block.Writes (b : Block) : Instr → Block → Prop where
  | nothing {i : Instr} : b.Writes i b
  | wrInit {valid initialized lineOe lineOut run : Bool} {result : Code} {actPin actTimer : Byte}
      {data0 data1 actTimeout cnt : Word} :
      b.Writes .wrInit { b with
        valid, data0, data1, result, initialized, actPin, actTimer, actTimeout, lineOe, lineOut, run, cnt }
  | wrRead {valid lineOe lineOut run : Bool} {result pend state : Code} {data0 data1 polls : Word} {shift : Buffer}
      {bitidx : BitVec 6} {dly : BitVec 16} :
      b.Writes .wrRead { b with
        valid, data0, data1, result, pend, shift, bitidx, dly, polls, run, lineOe, lineOut, state }
  | wrConfig {data : Word} {cfgPin cfgTimer : Byte} : b.Writes (.wrConfig data) { b with cfgPin, cfgTimer }
  | wrTimeout {data timeout : Word} : b.Writes (.wrTimeout data) { b with timeout }
  | stepStart {lineOe lineOut : Bool} {polls : Word} {state : Code} :
      b.Writes .stepStart { b with lineOe, lineOut, polls, state }
  | stepAckA {polls : Word} {pend state : Code} : b.Writes .stepAckA { b with polls, pend, state }
  | stepAckB {polls : Word} {pend state : Code} : b.Writes .stepAckB { b with polls, pend, state }
  | stepAckC {polls cnt : Word} {pend state : Code} : b.Writes .stepAckC { b with polls, cnt, pend, state }
  | stepBitHigh {run : Bool} {state : Code} : b.Writes .stepBitHigh { b with run, state }
  | stepBitLow {run : Bool} {cnt : Word} {shift : Buffer} {bitidx : BitVec 6} {state : Code} :
      b.Writes .stepBitLow { b with run, cnt, shift, bitidx, state }
  | stepCheck {pend state : Code} : b.Writes .stepCheck { b with pend, state }
  | stepDone {valid lineOe lineOut : Bool} {data0 data1 : Word} {result state : Code} :
      b.Writes .stepDone { b with lineOe, lineOut, data0, data1, valid, result, state }
  | stepError {lineOe lineOut run : Bool} {shift : Buffer} {result pend state : Code} :
      b.Writes .stepError { b with lineOe, lineOut, run, shift, result, pend, state }
  | tick {cnt : Word} {dly : BitVec 16} : b.Writes .tick { b with cnt, dly }
  | reset {b' : Block} : b.Writes .reset b'

/-- A wait enters the next phase, or writes POLLS, PEND and STATE at most (41_start_and_handshake.md R143). -/
theorem Block.await_writes (level : Bool) (next : Code) (entry : Block → Block) (v : Bool) (b : Block) :
    Block.await level next entry v b = (entry b).goto next ∨
      ∃ polls pend state, Block.await level next entry v b = { b with polls, pend, state } := by
  rcases Block.await_cases level next entry v b with ⟨-, e⟩ | ⟨-, e⟩ <;> rw [e]
  · exact .inl rfl
  · rcases b.missedPoll_cases with ⟨-, e'⟩ | ⟨-, e'⟩ <;> rw [e'] <;> exact .inr ⟨_, _, _, rfl⟩

/-- Every rule writes the elements it is named for and no other. -/
theorem blockEffect_writes (i : Instr) (v : Bool) (b : Block) : b.Writes i (blockEffect i v b) := by
  cases i with
  | wrInit =>
    rcases Block.initCommand_cases Config.hw b with e | ⟨c, -, e⟩ | ⟨-, e⟩ <;> rw [blockEffect, e]
    · exact .nothing
    · exact .wrInit
    · exact .wrInit
  | wrRead =>
    rcases b.readCommand_cases with e | ⟨-, -, e⟩ | ⟨-, -, e⟩ <;> rw [blockEffect, e]
    · exact .nothing
    · exact .wrRead
    · exact .wrRead
  | wrConfig data => exact .wrConfig
  | wrTimeout data => exact .wrTimeout
  | stepStart =>
    rcases b.startRule_cases with ⟨-, e⟩ | ⟨-, e⟩ <;> rw [blockEffect, e]
    · exact .stepStart
    · exact .nothing
  | stepAckA =>
    rcases Block.await_writes false St.ackB (fun c => c.loadPolls c.actTimeout) v b with e | ⟨_, _, _, e⟩ <;>
      rw [show blockEffect .stepAckA v b = _ from e] <;> exact .stepAckA
  | stepAckB =>
    rcases Block.await_writes true St.ackC (fun c => c.loadPolls c.actTimeout) v b with e | ⟨_, _, _, e⟩ <;>
      rw [show blockEffect .stepAckB v b = _ from e] <;> exact .stepAckB
  | stepAckC =>
    rcases Block.await_writes false St.bitHigh (fun c => c.resetTimer.loadBitWait Config.hw) v b with
      e | ⟨_, _, _, e⟩ <;> rw [show blockEffect .stepAckC v b = _ from e] <;> exact .stepAckC
  | stepBitHigh =>
    rw [blockEffect, Block.bitHighRule_hw]
    cases v
    · exact .nothing
    · exact .stepBitHigh
  | stepBitLow =>
    rw [blockEffect, Block.bitLowRule_hw]
    cases v
    · rcases (b.takeBit Config.hw).nextBit_cases with ⟨-, e⟩ | ⟨-, e⟩ <;> simp only [Bool.false_eq_true, if_false, e]
      · exact .stepBitLow
      · exact .stepBitLow
    · exact .nothing
  | stepCheck =>
    rcases b.checkRule_cases with ⟨-, e⟩ | ⟨-, e⟩ <;> rw [blockEffect, e] <;> exact .stepCheck
  | stepDone => exact .stepDone
  | stepError => exact .stepError
  | tick =>
    rw [blockEffect, Block.tickRule_eq]
    exact .tick
  | reset => exact .reset
  | rdCtrl | rdStatus | rdConfig | rdTimeout | rdData0 | rdData1 | rdRsvd | wrNop | wrCmdRsvd | wrStatus
  | wrData0 | wrData1 | wrRsvd | misaligned01 | misaligned10 | misaligned11 | stepIdle => exact .nothing

theorem exec_writes {i : Instr} {s t : State} (h : exec i s = .next t) : s.blk.Writes i t.blk := by
  rw [(exec_next h).1]
  exact blockEffect_writes i _ s.blk

/-- Settles O56: of the instructions that change an element, each is one that may write it. -/
theorem hostVisibleElementsChangeOnlyWhereTheSpecSays : Obligations.HostVisibleElementsChangeOnlyWhereTheSpecSays := by
  intro i s t h
  have hw := exec_writes h
  generalize s.blk = b, t.blk = b' at hw
  cases hw <;> simp

/-- Settles O57: of the instructions that change an element, each is one that may write it. -/
theorem engineElementsChangeOnlyWhereTheSpecSays : Obligations.EngineElementsChangeOnlyWhereTheSpecSays := by
  intro i s t h
  have hw := exec_writes h
  generalize s.blk = b, t.blk = b' at hw
  cases hw <;> simp

/-! ### The transitions of STATE (R92) -/

section
variable {b : Block}

theorem Block.startRule_state : b.startRule.state = if b.dly = startLowTicks then St.ackA else b.state := by
  rcases b.startRule_cases with ⟨h, e⟩ | ⟨h, e⟩ <;> rw [e]
  · exact (if_pos h).symm
  · exact (if_neg h).symm

theorem Block.missedPoll_state : b.missedPoll.state = if b.polls = 1 then St.error else b.state := by
  by_cases h : b.polls = 1
  · rw [Block.missedPoll_last h, if_pos h]
  · rw [Block.missedPoll_more h, if_neg h]

/-- A wait goes on to the next phase, to ERROR, or stays (41_start_and_handshake.md R143). -/
theorem Block.await_state {level v : Bool} {next : Code} {entry : Block → Block} :
    (Block.await level next entry v b).state =
      if v = level then next else if b.polls = 1 then St.error else b.state := by
  rcases Block.await_cases level next entry v b with ⟨h, e⟩ | ⟨h, e⟩ <;> rw [e, h]
  · rw [if_pos rfl]
    rfl
  · rw [if_neg (by simp), Block.missedPoll_state]

theorem Block.bitHighRule_state {v : Bool} :
    (Block.bitHighRule Config.hw v b).state = if v then St.bitLow else b.state := by
  rw [Block.bitHighRule_hw]
  cases v <;> rfl

theorem Block.bitLowRule_state {v : Bool} (hb : b.bitidx.toNat < 40) :
    (Block.bitLowRule Config.hw v b).state =
      if v then b.state else if b.bitidx.toNat + 1 < 40 then St.bitHigh else St.check := by
  cases v with
  | true => rw [Block.bitLowRule_hw, if_pos rfl, if_pos rfl]
  | false =>
    by_cases hlast : b.bitidx.toNat + 1 < 40
    · rw [Block.bitLowRule_fall_more (by omega), if_pos hlast]
      rfl
    · rw [Block.bitLowRule_fall_last (by bv_omega), if_neg hlast]
      rfl

theorem Block.checkRule_state : b.checkRule.state = if checksumOk b.shift = true then St.done else St.error := by
  rcases b.checkRule_cases with ⟨h, e⟩ | ⟨h, e⟩ <;> rw [e, h] <;> rfl

end

/-- Of the host operations an accepted READ alone changes STATE. -/
theorem hostOp_state {i : Instr} (hi : IsHostOp i) (v : Bool) (b : Block) :
    (blockEffect i v b).state = b.state ∨
      i = .wrRead ∧ b.state = St.idle ∧ b.initialized = true ∧ (blockEffect i v b).state = St.start := by
  obtain ⟨w, hw⟩ := hi
  cases i with
  | wrRead =>
    rcases b.readCommand_cases with e | ⟨-, -, e⟩ | ⟨hs, hinit, e⟩ <;> rw [blockEffect, e]
    · exact .inl rfl
    · exact .inl rfl
    · exact .inr ⟨rfl, hs, hinit, rfl⟩
  | wrInit =>
    rcases Block.initCommand_cases Config.hw b with e | ⟨c, -, e⟩ | ⟨-, e⟩ <;> rw [blockEffect, e] <;> exact .inl rfl
  | rdCtrl | rdStatus | rdConfig | rdTimeout | rdData0 | rdData1 | rdRsvd | wrNop | wrCmdRsvd | wrStatus | wrConfig
  | wrTimeout | wrData0 | wrData1 | wrRsvd | misaligned01 | misaligned10 | misaligned11 => exact .inl rfl
  | stepIdle | stepStart | stepAckA | stepAckB | stepAckC | stepBitHigh | stepBitLow | stepCheck | stepDone
  | stepError | tick | reset => cases hw

/-- A pending ENGINE turn with an answer pending has the effect of the rule its STATE selects on that answer. -/
theorem step_engine_sample {s t : State} {rest : List Input} {v : Bool} {later : List Bool} {i : Instr}
    (ha : s.agenda = .engine :: rest) (hline : s.line = v :: later) (hi : decodeState s.blk.state = .ok i)
    (h : step s = .next t) : t.blk = blockEffect i v s.blk := by
  rw [step_pending ha (fetchWord_engine _) hi] at h
  have hlevel := State.sampleLevel_cons (s := { s with agenda := rest, draws := s.draws + 1 }) hline
  rw [(exec_next h).1, hlevel]

/-- Settles O55, rule by rule; of the other agents' instructions RESET and an accepted READ alone change STATE. -/
theorem engineFollowsTheTransitionTable : Obligations.EngineFollowsTheTransitionTable := by
  constructor
  · intro s t rest v later hinv ha hline hstep
    have heffect {c : Code} {i : Instr} (hs : s.blk.state = c) (hi : decodeState c = .ok i) :
        t.blk.state = (blockEffect i v s.blk).state :=
      congrArg Block.state (step_engine_sample ha hline (hs ▸ hi) hstep)
    refine ⟨fun hs => ?_, fun hs => ?_, fun hs => ?_, fun hs => ?_, fun hs => ?_, fun hs => ?_, fun hs => ?_,
      fun hs => ?_, fun hs => ?_, fun hs => ?_⟩
    · exact (heffect hs rfl).trans hs
    · exact hs ▸ (heffect hs rfl).trans Block.startRule_state
    · exact hs ▸ (heffect hs rfl).trans Block.await_state
    · exact hs ▸ (heffect hs rfl).trans Block.await_state
    · exact hs ▸ (heffect hs rfl).trans Block.await_state
    · exact hs ▸ (heffect hs rfl).trans Block.bitHighRule_state
    · exact hs ▸ (heffect hs rfl).trans (Block.bitLowRule_state (hinv.bitsMissing (.inr hs)))
    · exact (heffect hs rfl).trans Block.checkRule_state
    · exact heffect hs rfl
    · exact heffect hs rfl
  · intro s t hstep hx
    obtain ⟨raw, i, hfetch, hdec, hexec⟩ := step_next hstep
    rw [(exec_next hexec).1]
    cases raw with
    | engineState c => exact absurd (fetchWord_engineState hfetch).1 hx
    | event e =>
      cases e with
      | tick =>
        cases hdec
        refine .inl ?_
        rw [blockEffect, Block.tickRule_eq]
        rfl
      | reset =>
        cases hdec
        exact .inr (.inl ⟨fetched_reset hfetch, rfl⟩)
    | hostop w =>
      rcases hostOp_state (decode_hostop_encode hdec) s.takeInput.sampleLevel s.blk with e | ⟨rfl, hs, hinit, e⟩
      · exact .inl e
      · exact .inr (.inr ⟨hs, hinit, e, _, hfetch, hdec⟩)

/-! ### Single-bit errors (R182) -/

/-- A flipped bit leaves every byte but its own (43_checksum_and_completion.md R181). -/
theorem byteK_flip_other (v : Buffer) {j k : Nat} (hj : j < 40) (hk : k < 5) (hne : k ≠ 4 - j / 8) :
    byteK k (v ^^^ bitMask j) = byteK k v := by
  apply BitVec.eq_of_getLsbD_eq
  intro i hi
  have hother : 32 - 8 * k + i ≠ j := by omega
  simp [byteK, hi, bitMask_getLsbD j (32 - 8 * k + i) (by omega), hother]

/-- A flipped bit changes its own byte. -/
theorem byteK_flip_own (v : Buffer) {j : Nat} (hj : j < 40) :
    byteK (4 - j / 8) (v ^^^ bitMask j) ≠ byteK (4 - j / 8) v := by
  intro he
  have hplace : 32 - 8 * (4 - j / 8) + j % 8 = j := by omega
  have hbit := congrArg (BitVec.getLsbD · (j % 8)) he
  simp [byteK, hplace, Nat.mod_lt, bitMask_getLsbD j j hj] at hbit

/-- The checksum and four of the five bytes determine the fifth. -/
theorem checksum_determines {v w : Buffer} (hv : checksumOk v = true) (hw : checksumOk w = true) {m : Nat} (hm : m < 5)
    (hother : ∀ k, k < 5 → k ≠ m → byteK k v = byteK k w) : byteK m v = byteK m w := by
  have hbyte (k : Nat) (hk : k < 5) (hne : k ≠ m) : (byteK k v).toNat = (byteK k w).toNat :=
    congrArg _ (hother k hk hne)
  rw [checksumOk_iff, byteSum] at hv hw
  have h0 := hbyte 0 (by decide)
  have h1 := hbyte 1 (by decide)
  have h2 := hbyte 2 (by decide)
  have h3 := hbyte 3 (by decide)
  have h4 := hbyte 4 (by decide)
  apply BitVec.eq_of_toNat_eq
  interval_cases m <;> omega

/-- Settles O41: one byte changes, and the checksum with the other four determines it. -/
theorem singleBitErrorsAreDetected : Obligations.SingleBitErrorsAreDetected := by
  intro v j hj hv
  refine Bool.eq_false_of_not_eq_true fun hflip => byteK_flip_own v hj ?_
  exact checksum_determines hflip hv (by omega) fun k hk hne => byteK_flip_other v hj hk hne

end Sys2Proof.Machine

/-! Quiescent runs (10_state.md R42), the handshake budget (41_start_and_handshake.md R147) and the hang of a bit wait
(60_exceptions.md R215). -/

namespace Sys2Proof.Machine

/-! ### Quiescent runs (R42) -/

section
variable {r : Nat → State} {xs : Nat → Input} {vs : Nat → Bool} {n : Nat} (hrun : Run r xs vs n)
  (hq : Quiescent (r 0) xs) (hinv : (r 0).blk.Inv)
include hrun hq hinv

/-- STATE stays IDLE: no step of a quiescent run writes another code. -/
theorem Run.quiescent_idle {m : Nat} (hm : m ≤ n) : (r m).blk.state = St.idle := by
  induction m with
  | zero => exact hq.1
  | succ m ih =>
    have hs := ih (by omega)
    have hoff := (hrun.inv hinv (k := m) (by omega)).run_off (by simp [hs])
    rcases step_feed_quiescent (hrun m hm) (hq.2 m) hs hoff with ⟨-, e, -⟩ | ⟨-, e⟩ <;> rw [e]
    · exact hs
    · rfl

theorem Run.quiescent_step {k : Nat} (hk : k < n) :
    ((xs k = .engine ∨ xs k = .tick) ∧ (r (k + 1)).blk = (r k).blk ∧ (r (k + 1)).history = (r k).history) ∨
    (xs k = .reset ∧ (r (k + 1)).blk = Block.reset) := by
  have hs := hrun.quiescent_idle hq hinv hk.le
  have hoff := (hrun.inv hinv hk.le).run_off (by simp [hs])
  exact step_feed_quiescent (hrun k hk) (hq.2 k) hs hoff

/-- Without a RESET nothing has changed or been shown. -/
theorem Run.quiescent_unchanged (hreset : ∀ k, k < n → xs k ≠ .reset) {m : Nat} (hm : m ≤ n) :
    (r m).blk = (r 0).blk ∧ (r m).history = (r 0).history := by
  induction m with
  | zero => exact ⟨rfl, rfl⟩
  | succ m ih =>
    rcases hrun.quiescent_step hq hinv hm with ⟨-, e⟩ | ⟨hx, -⟩
    · rw [e.1, e.2]
      exact ih (by omega)
    · exact absurd hx (hreset m hm)

/-- After a RESET the block stays at its reset values. -/
theorem Run.quiescent_reset {k : Nat} (hx : xs k = .reset) {m : Nat} (hkm : k < m) (hm : m ≤ n) :
    (r m).blk = Block.reset := by
  induction m with
  | zero => exact absurd hkm (Nat.not_lt_zero k)
  | succ m ih =>
    rcases hrun.quiescent_step hq hinv hm with ⟨hother, e, -⟩ | ⟨-, e⟩
    · rcases Nat.lt_succ_iff_lt_or_eq.1 hkm with hlt | rfl
      · exact e.trans (ih hlt (by omega))
      · simp [hx] at hother
    · exact e

end

/-! ### The handshake budget (R147) -/

/-- The block is in the handshake phase that awaits `level`. -/
def Block.Awaits (b : Block) (level : Bool) : Prop :=
  b.state = St.ackA ∧ level = false ∨ b.state = St.ackB ∧ level = true ∨ b.state = St.ackC ∧ level = false

section
variable {b : Block} {level : Bool} (h : b.Awaits level)
include h

theorem Block.Awaits.inHandshake : b.inHandshake := by
  rcases h with ⟨hs, -⟩ | ⟨hs, -⟩ | ⟨hs, -⟩ <;> simp [Block.inHandshake, hs]

theorem Block.Awaits.of_state {b' : Block} (hs : b'.state = b.state) : b'.Awaits level := by
  rwa [Block.Awaits, hs]

/-- The ENGINE step of a handshake phase misses a poll on the other level. -/
theorem Block.Awaits.engine_misses {i : Instr} (hi : decodeState b.state = .ok i) :
    blockEffect i (!level) b = b.missedPoll := by
  rcases h with ⟨hs, rfl⟩ | ⟨hs, rfl⟩ | ⟨hs, rfl⟩ <;> rw [hs] at hi <;> cases hi <;> rfl

end

theorem Block.inHandshake.state_ne_idle {b : Block} (h : b.inHandshake) : b.state ≠ St.idle := by
  rcases h with hs | hs | hs <;> simp [hs]

/-- A step of a handshake phase that is no RESET and samples only the other level: ENGINE misses a poll, and the
other agents leave STATE and POLLS. -/
theorem step_feed_awaits {s t : State} {x : Input} {v level : Bool} (h : step (s.feed x v) = .next t)
    (hx : x ≠ .reset) (hw : s.blk.Awaits level) (hv : x = .engine → v = !level) :
    (x = .engine ∧ t.blk = s.blk.missedPoll) ∨
    (x ≠ .engine ∧ t.blk.state = s.blk.state ∧ t.blk.polls = s.blk.polls) := by
  rcases step_feed_busy h hx hw.inHandshake.state_ne_idle with ⟨hengine, i, hi, e⟩ | ⟨rfl, e⟩ | ⟨hne, -, e⟩
  · rw [hv hengine, hw.engine_misses hi] at e
    exact .inl ⟨hengine, e⟩
  · rw [e, Block.tickRule_eq]
    exact .inr ⟨by simp, rfl, rfl⟩
  · exact .inr ⟨hne, Block.of_unstaged Block.state (fun _ => rfl) e, Block.of_unstaged Block.polls (fun _ => rfl) e⟩

section
variable {r : Nat → State} {xs : Nat → Input} {vs : Nat → Bool} {n : Nat} {level : Bool} (hrun : Run r xs vs n)
  (h0 : (r 0).blk.Awaits level) (hreset : ∀ k, k < n → xs k ≠ .reset)
  (hwrong : ∀ k, k < n → xs k = .engine → vs k = !level)
include hrun h0 hreset hwrong

/-- As long as fewer ENGINE steps than the budget have occurred, the phase lasts and each has spent one poll. -/
theorem Run.budget {m : Nat} (hm : m ≤ n) (hfew : inputCount .engine xs m < (r 0).blk.polls.toNat) :
    (r m).blk.state = (r 0).blk.state ∧
      (r m).blk.polls.toNat + inputCount .engine xs m = (r 0).blk.polls.toNat := by
  induction m with
  | zero => exact ⟨rfl, rfl⟩
  | succ m ih =>
    have hmono := inputCount_mono .engine xs m 1
    obtain ⟨hs, hp⟩ := ih (by omega) (by omega)
    rcases step_feed_awaits (hrun m hm) (hreset m hm) (h0.of_state hs) (hwrong m hm) with ⟨hx, e⟩ | ⟨hx, es, ep⟩
    · rw [inputCount_same hx] at hfew ⊢
      rw [e, Block.missedPoll_more (by bv_omega)]
      exact ⟨hs, by bv_omega⟩
    · rw [inputCount_other hx, es, ep]
      exact ⟨hs, hp⟩

/-- The ENGINE step that exhausts the budget fails with RD_TIMEOUT. -/
theorem Run.budget_exhausted {m : Nat} (hm : m < n) (hfew : inputCount .engine xs m < (r 0).blk.polls.toNat)
    (hlast : inputCount .engine xs (m + 1) = (r 0).blk.polls.toNat) :
    (r (m + 1)).blk.state = St.error ∧ (r (m + 1)).blk.pend = Res.rdTimeout := by
  obtain ⟨hs, hp⟩ := hrun.budget h0 hreset hwrong hm.le hfew
  rcases step_feed_awaits (hrun m hm) (hreset m hm) (h0.of_state hs) (hwrong m hm) with ⟨hx, e⟩ | ⟨hx, -, -⟩
  · rw [inputCount_same hx] at hlast
    rw [e, Block.missedPoll_last (by bv_omega)]
    exact ⟨rfl, rfl⟩
  · rw [inputCount_other hx] at hlast
    omega

end

/-! ### The hang of a bit wait (R215) -/

/-- ENGINE and TICK by turns: the schedule of the hang. -/
def alternating (k : Nat) : Input := if k % 2 = 0 then .engine else .tick

theorem alternating_fair : WeaklyFair alternating :=
  ⟨fun n => ⟨2 * n, by omega, if_pos (by omega)⟩, fun n => ⟨2 * n + 1, by omega, if_neg (by omega)⟩⟩

theorem alternating_not_reset (k : Nat) : alternating k ≠ .reset := by
  unfold alternating
  split <;> simp

/-- The states of the hang under `alternating`: an ENGINE step uses up its sample, a TICK counts. -/
def hangStates (wrong : Bool) (s : State) : Nat → State
  | 0 => s
  | k + 1 =>
    let u := ((hangStates wrong s k).feed (alternating k) wrong).takeInput
    if k % 2 = 0 then u.sampled else u.setBlk u.blk.tickRule

theorem step_feed_hang_engine {s : State} {wrong : Bool} (h : s.blk.HangsOn wrong) :
    step (s.feed .engine wrong) = .next (s.feed .engine wrong).takeInput.sampled := by
  rcases h with ⟨hs, rfl⟩ | ⟨hs, rfl⟩
  · rw [step_feed_engine (i := .stepBitHigh) (by rw [hs]; rfl)]
    rfl
  · rw [step_feed_engine (i := .stepBitLow) (by rw [hs]; rfl)]
    rfl

theorem hangStates_step {wrong : Bool} {s : State} {k : Nat} (h : (hangStates wrong s k).blk.HangsOn wrong) :
    step ((hangStates wrong s k).feed (alternating k) wrong) = .next (hangStates wrong s (k + 1)) := by
  by_cases hk : k % 2 = 0
  · have hx : alternating k = .engine := if_pos hk
    rw [hangStates, if_pos hk, hx, step_feed_hang_engine h]
  · have hx : alternating k = .tick := if_neg hk
    rw [hangStates, if_neg hk, hx]
    rfl

theorem hangStates_hang {wrong : Bool} {s : State} (h : s.blk.HangsOn wrong) (k : Nat) :
    (hangStates wrong s k).blk.state = s.blk.state := by
  induction k with
  | zero => rfl
  | succ k ih =>
    have hk := h.of_state ih
    exact (step_feed_hang (hangStates_step hk) (alternating_not_reset k) hk fun _ => rfl).1.trans ih

/-! ### The obligations of quiescence, the handshake budget and the hang -/

/-- Settles O25: a step of a quiescent run changes and shows nothing or is a RESET. -/
theorem quiescentRunsChangeNothing : Obligations.QuiescentRunsChangeNothing := by
  intro r xs vs n hrun hq hinv
  refine ⟨hrun.quiescent_idle hq hinv le_rfl, fun k hk hx => ?_, fun hreset => ?_, ?_⟩
  · rcases hrun.quiescent_step hq hinv hk with ⟨-, e⟩ | ⟨he, -⟩
    · exact e
    · simp [he] at hx
  · exact hrun.quiescent_unchanged hq hinv hreset le_rfl
  · rintro ⟨k, hk, hx⟩
    exact hrun.quiescent_reset hq hinv hx hk le_rfl

/-- Settles O29: every wrong sample spends one poll, and the one that spends the last fails. -/
theorem handshakeBudgetIsExact : Obligations.HandshakeBudgetIsExact := by
  rintro r xs vs n c level hrun hphase hinv rfl hpolls hreset hwrong
  have h0 : (r 0).blk.Awaits level := hphase
  rw [← hpolls]
  constructor
  · intro hfew
    obtain ⟨hs, hp⟩ := hrun.budget h0 hreset hwrong le_rfl hfew
    exact ⟨hs, by omega, by omega⟩
  · intro hlast hfew
    cases n with
    | zero => exact absurd hlast hfew.ne
    | succ m => exact hrun.budget_exhausted h0 hreset hwrong m.lt_succ_self hfew hlast

/-- Settles O53: ENGINE and TICK by turns, on a line that shows only the wrong level. -/
theorem theHangIsAFairRun : Obligations.TheHangIsAFairRun := by
  intro s hs
  obtain ⟨wrong, h⟩ : ∃ wrong, s.blk.HangsOn wrong :=
    hs.elim (fun hs => ⟨false, .inl ⟨hs, rfl⟩⟩) (fun hs => ⟨true, .inr ⟨hs, rfl⟩⟩)
  exact ⟨hangStates wrong s, alternating, fun _ => wrong, rfl,
    fun k => hangStates_step (h.of_state (hangStates_hang h k)), alternating_fair, alternating_not_reset,
    hangStates_hang h⟩

end Sys2Proof.Machine

/-! The laws of a transaction (43_checksum_and_completion.md R185, R186): how many ENGINE steps are left, which steps
use one up, and how a transaction ends. -/

namespace Sys2Proof.Machine

/-! ### The ENGINE steps left of a transaction -/

/-- The bit waits (42_bit_acquisition.md R164, R165). -/
def Block.inBitWait (b : Block) : Prop := b.state = St.bitHigh ∨ b.state = St.bitLow

/-- A bound on the ENGINE steps left of a transaction, if each bit wait takes at most `K` of them and START one
(43_checksum_and_completion.md R186). -/
def Block.stepsLeft (K : Nat) (b : Block) : Nat :=
  if b.state = St.start then 3 * b.actTimeout.toNat + 80 * K + 3
  else if b.state = St.ackA then b.polls.toNat + 2 * b.actTimeout.toNat + 80 * K + 2
  else if b.state = St.ackB then b.polls.toNat + b.actTimeout.toNat + 80 * K + 2
  else if b.state = St.ackC then b.polls.toNat + 80 * K + 2
  else if b.state = St.bitHigh then (80 - 2 * b.bitidx.toNat) * K + 2
  else if b.state = St.bitLow then (79 - 2 * b.bitidx.toNat) * K + 2
  else if b.state = St.check then 2
  else if b.state = St.idle then 0
  else 1

section
variable {K : Nat} {b : Block}

theorem Block.stepsLeft_start (hs : b.state = St.start) :
    b.stepsLeft K = 3 * b.actTimeout.toNat + 80 * K + 3 := by simp [Block.stepsLeft, hs]

theorem Block.stepsLeft_ackA (hs : b.state = St.ackA) :
    b.stepsLeft K = b.polls.toNat + 2 * b.actTimeout.toNat + 80 * K + 2 := by simp [Block.stepsLeft, hs]

theorem Block.stepsLeft_ackB (hs : b.state = St.ackB) :
    b.stepsLeft K = b.polls.toNat + b.actTimeout.toNat + 80 * K + 2 := by simp [Block.stepsLeft, hs]

theorem Block.stepsLeft_ackC (hs : b.state = St.ackC) :
    b.stepsLeft K = b.polls.toNat + 80 * K + 2 := by simp [Block.stepsLeft, hs]

theorem Block.stepsLeft_bitHigh (hs : b.state = St.bitHigh) :
    b.stepsLeft K = (80 - 2 * b.bitidx.toNat) * K + 2 := by simp [Block.stepsLeft, hs]

theorem Block.stepsLeft_bitLow (hs : b.state = St.bitLow) :
    b.stepsLeft K = (79 - 2 * b.bitidx.toNat) * K + 2 := by simp [Block.stepsLeft, hs]

theorem Block.stepsLeft_check (hs : b.state = St.check) : b.stepsLeft K = 2 := by simp [Block.stepsLeft, hs]

theorem Block.stepsLeft_done (hs : b.state = St.done) : b.stepsLeft K = 1 := by simp [Block.stepsLeft, hs]

theorem Block.stepsLeft_error (hs : b.state = St.error) : b.stepsLeft K = 1 := by simp [Block.stepsLeft, hs]

/-- The polls of a handshake phase count in the steps left, whatever their number. -/
theorem Block.inHandshake.stepsLeft (hs : b.inHandshake) (K : Nat) :
    ∃ rest, 2 ≤ rest ∧ ∀ p : Word, { b with polls := p }.stepsLeft K = p.toNat + rest := by
  rcases hs with hs | hs | hs
  · exact ⟨2 * b.actTimeout.toNat + 80 * K + 2, by omega, fun p => by simp [Block.stepsLeft, hs, Nat.add_assoc]⟩
  · exact ⟨b.actTimeout.toNat + 80 * K + 2, by omega, fun p => by simp [Block.stepsLeft, hs, Nat.add_assoc]⟩
  · exact ⟨80 * K + 2, by omega, fun p => by simp [Block.stepsLeft, hs, Nat.add_assoc]⟩

/-- A transaction that has not ended has a step left. -/
theorem Block.stepsLeft_pos (hs : b.state ≠ St.idle) : 1 ≤ b.stepsLeft K := by
  rw [Block.stepsLeft, if_neg hs]
  split_ifs <;> omega

/-- In a bit wait, a whole wait is left and more. -/
theorem Block.Inv.stepsLeft_bitWait (h : b.Inv) (hw : b.inBitWait) : K + 2 ≤ b.stepsLeft K := by
  have hbit := h.bitsMissing hw
  have hwait (n : Nat) (hn : 1 ≤ n) : K ≤ n * K := Nat.le_mul_of_pos_left K hn
  rcases hw with hs | hs
  · rw [Block.stepsLeft_bitHigh hs]
    have := hwait (80 - 2 * b.bitidx.toNat) (by omega)
    omega
  · rw [Block.stepsLeft_bitLow hs]
    have := hwait (79 - 2 * b.bitidx.toNat) (by omega)
    omega

end

/-! ### What an ENGINE step uses up -/

/-- The phases of a transaction and the rules that they select (30_encoding.md R86). -/
theorem engine_cases {b : Block} {i : Instr} (hi : decodeState b.state = .ok i) (hb : b.state ≠ St.idle) :
    (b.state = St.start ∧ i = .stepStart) ∨ (b.state = St.ackA ∧ i = .stepAckA) ∨
    (b.state = St.ackB ∧ i = .stepAckB) ∨ (b.state = St.ackC ∧ i = .stepAckC) ∨
    (b.state = St.bitHigh ∧ i = .stepBitHigh) ∨ (b.state = St.bitLow ∧ i = .stepBitLow) ∨
    (b.state = St.check ∧ i = .stepCheck) ∨ (b.state = St.done ∧ i = .stepDone) ∨
    (b.state = St.error ∧ i = .stepError) := by
  have hcode := decodeState_ok hi
  generalize b.state = c at hcode hb
  cases i <;> cases hcode <;> simp at hb ⊢

/-- The ENGINE step waits: START for its ticks, a bit wait for its level. -/
def Block.Waits (b : Block) (v : Bool) : Prop := b.state = St.start ∧ b.dly ≠ startLowTicks ∨ b.HangsOn v

/-- The ENGINE steps that the end of this phase uses up: a bit wait all that it may take. -/
def Block.phaseCost (K : Nat) (b : Block) : Nat :=
  if b.state = St.bitHigh ∨ b.state = St.bitLow then K else 1

theorem Block.phaseCost_bitWait {K : Nat} {b : Block} (h : b.inBitWait) : b.phaseCost K = K := if_pos h

/-- Outside the bit waits an ENGINE step need only use up itself. -/
theorem Block.uses_one {K : Nat} {b b' : Block} (h : ¬ (b.state = St.bitHigh ∨ b.state = St.bitLow))
    (hle : b'.stepsLeft K + 1 ≤ b.stepsLeft K) : b'.stepsLeft K + b.phaseCost K ≤ b.stepsLeft K := by
  rwa [Block.phaseCost, if_neg h]

section
variable {K : Nat} {b : Block} (h : b.Inv)
include h

/-- A transaction has at least its present phase left. -/
theorem Block.Inv.phaseCost_le_stepsLeft (hb : b.state ≠ St.idle) : b.phaseCost K ≤ b.stepsLeft K := by
  rw [Block.phaseCost]
  split
  next hw => exact (Nat.le_add_right K 2).trans (h.stepsLeft_bitWait hw)
  next => exact Block.stepsLeft_pos hb

/-- A wrong sample of a handshake phase spends one poll, or the transaction goes to ERROR. -/
theorem Block.Inv.missedPoll_stepsLeft (hs : b.inHandshake) : b.missedPoll.stepsLeft K + 1 ≤ b.stepsLeft K := by
  obtain ⟨hlow, -⟩ := h.budget hs
  obtain ⟨rest, hrest, hleft⟩ := hs.stepsLeft K
  have hnow : b.stepsLeft K = b.polls.toNat + rest := hleft b.polls
  rw [hnow]
  by_cases hp : b.polls = 1
  · rw [Block.missedPoll_last hp, Block.stepsLeft_error rfl]
    omega
  · have hspent : (b.polls - 1).toNat + 1 = b.polls.toNat := by bv_omega
    rw [Block.missedPoll_more hp, hleft]
    omega

/-- A handshake phase uses up a step on every sample, if entering the next one does. -/
theorem Block.Inv.await_stepsLeft (hs : b.inHandshake) {level : Bool} {next : Code} {entry : Block → Block} (v : Bool)
    (hnext : ((entry b).goto next).stepsLeft K + 1 ≤ b.stepsLeft K) :
    (Block.await level next entry v b).stepsLeft K + 1 ≤ b.stepsLeft K := by
  rcases Block.await_cases level next entry v b with ⟨-, e⟩ | ⟨-, e⟩ <;> rw [e]
  · exact hnext
  · exact h.missedPoll_stepsLeft hs

/-- The rise ends BIT_HIGH and uses up its wait. -/
theorem Block.Inv.rise_stepsLeft (hs : b.state = St.bitHigh) :
    (Block.bitHighRule Config.hw true b).stepsLeft K + K ≤ b.stepsLeft K := by
  have hbit := h.bitsMissing (.inl hs)
  have hsplit : 80 - 2 * b.bitidx.toNat = 79 - 2 * b.bitidx.toNat + 1 := by omega
  rw [Block.stepsLeft_bitLow rfl, Block.stepsLeft_bitHigh hs, hsplit, Nat.add_one_mul (79 - _)]
  exact (Nat.add_right_comm _ _ _).le

/-- The fall ends BIT_LOW and uses up its wait. -/
theorem Block.Inv.fall_stepsLeft (hs : b.state = St.bitLow) :
    (Block.bitLowRule Config.hw false b).stepsLeft K + K ≤ b.stepsLeft K := by
  have hbit := h.bitsMissing (.inr hs)
  rw [Block.stepsLeft_bitLow hs]
  by_cases hmore : b.bitidx.toNat < 39
  · have hcount : (b.bitidx + 1).toNat = b.bitidx.toNat + 1 := by bv_omega
    have hsplit : 79 - 2 * b.bitidx.toNat = 80 - 2 * (b.bitidx + 1).toNat + 1 := by omega
    rw [Block.bitLowRule_fall_more hmore, Block.stepsLeft_bitHigh rfl, hsplit, Nat.add_one_mul (80 - _)]
    exact (Nat.add_right_comm _ _ _).le
  · have hlast : b.bitidx = 39#6 := by bv_omega
    rw [Block.bitLowRule_fall_last hlast, Block.stepsLeft_check rfl, hlast]
    exact (by omega : 2 + K ≤ (79 - 2 * 39) * K + 2)

theorem Block.Inv.ackA_stepsLeft (hs : b.state = St.ackA) (v : Bool) :
    (b.ackARule v).stepsLeft K + 1 ≤ b.stepsLeft K := by
  refine h.await_stepsLeft (.inl hs) v ?_
  have hlow := (h.budget (.inl hs)).1
  rw [Block.stepsLeft_ackA hs, Block.stepsLeft_ackB rfl]
  simp only [Block.goto_polls, Block.loadPolls_polls, Block.goto_actTimeout, Block.loadPolls_actTimeout]
  omega

theorem Block.Inv.ackB_stepsLeft (hs : b.state = St.ackB) (v : Bool) :
    (b.ackBRule v).stepsLeft K + 1 ≤ b.stepsLeft K := by
  refine h.await_stepsLeft (.inr (.inl hs)) v ?_
  have hlow := (h.budget (.inr (.inl hs))).1
  rw [Block.stepsLeft_ackB hs, Block.stepsLeft_ackC rfl]
  simp only [Block.goto_polls, Block.loadPolls_polls]
  omega

theorem Block.Inv.ackC_stepsLeft (hs : b.state = St.ackC) (v : Bool) :
    (Block.ackCRule Config.hw v b).stepsLeft K + 1 ≤ b.stepsLeft K := by
  refine h.await_stepsLeft (.inr (.inr hs)) v ?_
  have hlow := (h.budget (.inr (.inr hs))).1
  have hidx := (h.emptyBuffer (.inr (.inr (.inr hs)))).1
  have hall : (80 - 2 * b.bitidx.toNat) * K = 80 * K := by simp [hidx]
  have hfirst : (b.resetTimer.goto St.bitHigh).stepsLeft K = 80 * K + 2 := by
    rw [Block.stepsLeft_bitHigh rfl, ← hall]
    rfl
  rw [Block.stepsLeft_ackC hs, Block.loadBitWait_hw, hfirst]
  omega

omit h in
/-- The end of the start pulse uses up START's one step. -/
theorem Block.release_stepsLeft (hs : b.state = St.start) :
    ((b.releaseLine.loadPolls b.actTimeout).goto St.ackA).stepsLeft K + 1 ≤ b.stepsLeft K := by
  rw [Block.stepsLeft_start hs, Block.stepsLeft_ackA rfl]
  simp only [Block.goto_polls, Block.loadPolls_polls, Block.goto_actTimeout, Block.loadPolls_actTimeout,
    Block.releaseLine_actTimeout]
  omega

omit h in
theorem Block.check_stepsLeft (hs : b.state = St.check) : b.checkRule.stepsLeft K + 1 ≤ b.stepsLeft K := by
  rw [Block.stepsLeft_check hs]
  rcases b.checkRule_cases with ⟨-, e⟩ | ⟨-, e⟩ <;> rw [e]
  · rw [Block.stepsLeft_done rfl]
  · rw [Block.stepsLeft_error rfl]

/-- An ENGINE step of a transaction waits and changes nothing, or uses up what its phase costs. -/
theorem engine_progress {i : Instr} (hi : decodeState b.state = .ok i) (hb : b.state ≠ St.idle) (v : Bool) :
    (b.Waits v ∧ blockEffect i v b = b) ∨ (blockEffect i v b).stepsLeft K + b.phaseCost K ≤ b.stepsLeft K := by
  rcases engine_cases hi hb with ⟨hs, rfl⟩ | ⟨hs, rfl⟩ | ⟨hs, rfl⟩ | ⟨hs, rfl⟩ | ⟨hs, rfl⟩ | ⟨hs, rfl⟩ | ⟨hs, rfl⟩ |
    ⟨hs, rfl⟩ | ⟨hs, rfl⟩
  · rcases b.startRule_cases with ⟨-, e⟩ | ⟨hd, e⟩
    · rw [blockEffect, e]
      exact .inr (Block.uses_one (by simp [hs]) (Block.release_stepsLeft hs))
    · exact .inl ⟨.inl ⟨hs, hd⟩, e⟩
  · exact .inr (Block.uses_one (by simp [hs]) (h.ackA_stepsLeft hs v))
  · exact .inr (Block.uses_one (by simp [hs]) (h.ackB_stepsLeft hs v))
  · exact .inr (Block.uses_one (by simp [hs]) (h.ackC_stepsLeft hs v))
  · rw [Block.phaseCost_bitWait (.inl hs)]
    cases v with
    | true => exact .inr (h.rise_stepsLeft hs)
    | false => exact .inl ⟨.inr (.inl ⟨hs, rfl⟩), Block.bitHighRule_hw false b⟩
  · rw [Block.phaseCost_bitWait (.inr hs)]
    cases v with
    | true => exact .inl ⟨.inr (.inr ⟨hs, rfl⟩), Block.bitLowRule_hw true b⟩
    | false => exact .inr (h.fall_stepsLeft hs)
  · exact .inr (Block.uses_one (by simp [hs]) (Block.check_stepsLeft hs))
  · exact .inr (Block.uses_one (by simp [hs]) (Block.stepsLeft_done hs).ge)
  · exact .inr (Block.uses_one (by simp [hs]) (Block.stepsLeft_error hs).ge)

/-- No ENGINE step enters START, and only DONE and ERROR lead to IDLE. -/
theorem engine_state {i : Instr} (hi : decodeState b.state = .ok i) (hb : b.state ≠ St.idle) (v : Bool) :
    (b.state ≠ St.start → (blockEffect i v b).state ≠ St.start) ∧
    ((blockEffect i v b).state = St.idle → b.state = St.done ∨ b.state = St.error) := by
  rcases engine_cases hi hb with ⟨hs, rfl⟩ | ⟨hs, rfl⟩ | ⟨hs, rfl⟩ | ⟨hs, rfl⟩ | ⟨hs, rfl⟩ | ⟨hs, rfl⟩ | ⟨hs, rfl⟩ |
    ⟨hs, rfl⟩ | ⟨hs, rfl⟩
  · simp only [blockEffect, Block.startRule_state, hs]
    split <;> simp
  · simp only [blockEffect, Block.ackARule, Block.await_state, hs]
    split_ifs <;> simp
  · simp only [blockEffect, Block.ackBRule, Block.await_state, hs]
    split_ifs <;> simp
  · simp only [blockEffect, Block.ackCRule, Block.await_state, hs]
    split_ifs <;> simp
  · simp only [blockEffect, Block.bitHighRule_state, hs]
    cases v <;> simp
  · simp only [blockEffect, Block.bitLowRule_state (h.bitsMissing (.inr hs)), hs]
    split_ifs <;> simp
  · simp only [blockEffect, Block.checkRule_state, hs]
    split_ifs <;> simp
  · simp [blockEffect, hs]
  · simp [blockEffect, hs]

end

/-! ### One step of a transaction, whoever takes it -/

/-- TICK and HOST leave STATE and the steps left (42_bit_acquisition.md R161; 40_host_interface.md R112). -/
theorem step_feed_other {s t : State} {x : Input} {v : Bool} (h : step (s.feed x v) = .next t) (hx : x ≠ .reset)
    (hb : s.blk.state ≠ St.idle) (he : x ≠ .engine) (K : Nat) :
    t.blk.state = s.blk.state ∧ t.blk.stepsLeft K = s.blk.stepsLeft K := by
  rcases step_feed_busy h hx hb with ⟨hengine, -⟩ | ⟨-, e⟩ | ⟨-, -, e⟩
  · exact absurd hengine he
  · rw [e, Block.tickRule_eq]
    exact ⟨rfl, rfl⟩
  · exact ⟨Block.of_unstaged Block.state (fun _ => rfl) e, Block.of_unstaged (Block.stepsLeft K) (fun _ => rfl) e⟩

section
variable {s t : State} {x : Input} {v : Bool} (h : step (s.feed x v) = .next t) (hx : x ≠ .reset)
  (hinv : s.blk.Inv) (hb : s.blk.state ≠ St.idle)
include h hx hinv hb

/-- START is entered by READ alone. -/
theorem step_feed_not_start (hs : s.blk.state ≠ St.start) : t.blk.state ≠ St.start := by
  by_cases he : x = .engine
  · subst he
    obtain ⟨i, hi, e⟩ := step_feed_engine_next h
    exact e ▸ (engine_state hinv hi hb v).1 hs
  · rwa [(step_feed_other h hx hb he 1).1]

/-- How a transaction ends (R185): DONE publishes a reading, ERROR reports its code and leaves none. -/
theorem step_feed_ends (ht : t.blk.state = St.idle) :
    (t.blk.result = Res.ok ∧ t.blk.valid = true) ∨ (t.blk.result = Res.rdTimeout ∧ t.blk.valid = false) ∨
    (t.blk.result = Res.rdChecksum ∧ t.blk.valid = false) := by
  by_cases he : x = .engine
  · subst he
    obtain ⟨i, hi, e⟩ := step_feed_engine_next h
    rw [e] at ht ⊢
    rcases (engine_state hinv hi hb v).2 ht with hs | hs <;> rw [hs] at hi <;> cases hi
    · exact .inl ⟨rfl, rfl⟩
    · have hinvalid := (hinv.transacting hb).invalid
      rcases hinv.legalPend with hp | hp | hp
      · exact absurd hp (hinv.item7.2 hs)
      · exact .inr (.inl ⟨hp, hinvalid⟩)
      · exact .inr (.inr ⟨hp, hinvalid⟩)
  · rw [(step_feed_other h hx hb he 1).1] at ht
    exact absurd ht hb

end

/-! ### Progress in a fair run (R185, R186) -/

/-- The steps left of a transaction, the ticks of its start pulse among them. -/
def Block.fuel (b : Block) : Nat := b.stepsLeft 1 + (startLowTicks.toNat - b.dly.toNat)

/-- The ENGINE leaves DLY. -/
theorem engine_dly {c : Code} {i : Instr} (hi : decodeState c = .ok i) (v : Bool) (b : Block) :
    (blockEffect i v b).dly = b.dly := by
  have hcode := decodeState_ok hi
  have hw := blockEffect_writes i v b
  generalize blockEffect i v b = b' at hw
  cases hw
  case wrRead | tick | reset => cases hcode
  all_goals rfl

/-- A step of a transaction that makes no progress: STATE and DLY are unchanged, an ENGINE step waits, and a TICK is
none of the start pulse's. -/
structure Stalls (s t : State) (x : Input) (v : Bool) : Prop where
  state : t.blk.state = s.blk.state
  dly : t.blk.dly = s.blk.dly
  fuel : t.blk.fuel = s.blk.fuel
  engine : x = .engine → s.blk.Waits v
  tick : x = .tick → ¬ (s.blk.state = St.start ∧ s.blk.dly.toNat < startLowTicks.toNat)

/-- A step of a transaction makes progress or stalls. -/
theorem step_feed_progress {s t : State} {x : Input} {v : Bool} (h : step (s.feed x v) = .next t) (hx : x ≠ .reset)
    (hinv : s.blk.Inv) (hb : s.blk.state ≠ St.idle) : t.blk.fuel < s.blk.fuel ∨ Stalls s t x v := by
  rcases step_feed_busy h hx hb with ⟨rfl, i, hi, e⟩ | ⟨rfl, e⟩ | ⟨hne, hnt, e⟩
  · rcases engine_progress (K := 1) hinv hi hb v with ⟨hw, hsame⟩ | hused
    · rw [hsame] at e
      exact .inr ⟨by rw [e], by rw [e], by rw [e], fun _ => hw, by simp⟩
    · have hcost : s.blk.phaseCost 1 = 1 := by simp [Block.phaseCost]
      have hdly := engine_dly hi v s.blk
      rw [hcost] at hused
      rw [e, Block.fuel, Block.fuel, hdly]
      omega
  · by_cases hcounts : s.blk.state = St.start ∧ s.blk.dly.toNat < startLowTicks.toNat
    · have hcount : t.blk.dly = s.blk.dly + 1 := by rw [e, Block.tickRule_eq, if_pos hcounts]
      have hnext : (s.blk.dly + 1).toNat = s.blk.dly.toNat + 1 := by bv_omega
      have hleft := (step_feed_other h hx hb (by simp) 1).2
      left
      rw [Block.fuel, Block.fuel, hleft, hcount, hnext]
      omega
    · have hleft := step_feed_other h hx hb (by simp) 1
      have hdly : t.blk.dly = s.blk.dly := by rw [e, Block.tickRule_eq, if_neg hcounts]
      exact .inr ⟨hleft.1, hdly, by rw [Block.fuel, Block.fuel, hleft.2, hdly], by simp, fun _ => hcounts⟩
  · exact .inr ⟨Block.of_unstaged Block.state (fun _ => rfl) e, Block.of_unstaged Block.dly (fun _ => rfl) e,
      Block.of_unstaged Block.fuel (fun _ => rfl) e, fun hc => absurd hc hne, fun hc => absurd hc hnt⟩

theorem InfiniteRun.run {r : Nat → State} {xs : Nat → Input} {vs : Nat → Bool} (h : InfiniteRun r xs vs) (n : Nat) :
    Run r xs vs n := fun k _ => h k

section
variable {r : Nat → State} {xs : Nat → Input} {vs : Nat → Bool} (hrun : InfiniteRun r xs vs) (hfair : WeaklyFair xs)
  (hreset : ∀ k, xs k ≠ .reset) (hinv : (r 0).blk.Inv) (hbusy : ∀ k, (r k).blk.state ≠ St.idle)
include hrun hreset hinv hbusy

/-- A transaction that never ends makes progress finitely often. -/
theorem InfiniteRun.stalls : ∃ n, ∀ k, n ≤ k → Stalls (r k) (r (k + 1)) (xs k) (vs k) := by
  have hstep (k : Nat) := step_feed_progress (hrun k) (hreset k) ((hrun.run k).inv hinv le_rfl) (hbusy k)
  have hanti : Antitone fun k => (r k).blk.fuel :=
    antitone_nat_of_succ_le fun k => (hstep k).elim le_of_lt fun hs => hs.fuel.le
  let n := Function.argmin fun k => (r k).blk.fuel
  refine ⟨n, fun k hk => (hstep k).resolve_left fun hlt => ?_⟩
  have hmin : (r n).blk.fuel ≤ (r (k + 1)).blk.fuel := Function.argmin_le (fun k => (r k).blk.fuel) (k + 1)
  exact absurd (hlt.trans_le (hanti hk)) (Nat.not_lt.2 hmin)

include hfair

/-- In a fair run a transaction that never ends stays for ever in one of the bit waits (R185). -/
theorem InfiniteRun.hangs :
    (∃ n, ∀ k, n ≤ k → (r k).blk.state = St.bitHigh) ∨ (∃ n, ∀ k, n ≤ k → (r k).blk.state = St.bitLow) := by
  obtain ⟨n, hstall⟩ := hrun.stalls hreset hinv hbusy
  have hconst (k : Nat) (hk : n ≤ k) : (r k).blk.state = (r n).blk.state ∧ (r k).blk.dly = (r n).blk.dly := by
    induction k, hk using Nat.le_induction with
    | base => exact ⟨rfl, rfl⟩
    | succ k hk ih => exact ⟨(hstall k hk).state.trans ih.1, (hstall k hk).dly.trans ih.2⟩
  obtain ⟨ke, hke, hxe⟩ := hfair.1 n
  obtain ⟨kt, hkt, hxt⟩ := hfair.2 n
  have hwait := (hstall ke hke).engine hxe
  have htick := (hstall kt hkt).tick hxt
  rw [(hconst kt hkt).1, (hconst kt hkt).2] at htick
  rw [Block.Waits, Block.HangsOn, (hconst ke hke).1, (hconst ke hke).2] at hwait
  rcases hwait with ⟨hs, hd⟩ | ⟨hs, -⟩ | ⟨hs, -⟩
  · have hle := ((hrun.run n).inv hinv le_rfl).item10
    have hne : (r n).blk.dly.toNat ≠ startLowTicks.toNat := fun he => hd (BitVec.eq_of_toNat_eq he)
    exact absurd ⟨hs, by omega⟩ htick
  · exact .inl ⟨n, fun k hk => (hconst k hk).1.trans hs⟩
  · exact .inr ⟨n, fun k hk => (hconst k hk).1.trans hs⟩

end

/-- START leads to ACK_A alone. -/
theorem step_feed_start {s t : State} {x : Input} {v : Bool} (h : step (s.feed x v) = .next t) (hx : x ≠ .reset)
    (hs : s.blk.state = St.start) (ht : t.blk.state ≠ St.start) : t.blk.state = St.ackA := by
  have hb : s.blk.state ≠ St.idle := by simp [hs]
  by_cases he : x = .engine
  · subst he
    obtain ⟨i, hi, e⟩ := step_feed_engine_next h
    rw [hs] at hi
    cases hi
    rw [e, blockEffect, Block.startRule_state, hs] at ht ⊢
    split_ifs at ht ⊢ with hd
    · rfl
    · exact absurd rfl ht
  · exact absurd ((step_feed_other h hx hb he 1).1.trans hs) ht

/-! ### A responsive line (R186) -/

/-- The level that a bit wait does not await. -/
def Block.wrongLevel (b : Block) : Bool := b.state == St.bitLow

theorem Block.HangsOn.inBitWait {b : Block} {v : Bool} (h : b.HangsOn v) : b.inBitWait :=
  h.imp And.left And.left

theorem Block.HangsOn.eq_wrongLevel {b : Block} {v : Bool} (h : b.HangsOn v) : v = b.wrongLevel := by
  rcases h with ⟨hs, rfl⟩ | ⟨hs, rfl⟩ <;> simp [Block.wrongLevel, hs]

/-- The present wait began at step `a`, `d` steps before step `m`, and has taken `w` wrong samples. -/
structure Wasted (r : Nat → State) (xs : Nat → Input) (vs : Nat → Bool) (m w a d : Nat) : Prop where
  now : a + d = m
  since : ∀ k, k < d → (r (a + k)).blk.state = (r m).blk.state
  count : samplesSeen (r m).blk.wrongLevel xs vs a d = w

/-- After `m` steps, `w` of them wrong samples of the present bit wait, no more ENGINE steps have occurred than the
phases that have ended may cost. -/
structure OnSchedule (r : Nat → State) (xs : Nat → Input) (vs : Nat → Bool) (K total m w : Nat) : Prop where
  notStart : (r m).blk.state ≠ St.start
  within : (r m).blk.stepsLeft K + inputCount .engine xs m ≤ total + w
  wait : w = 0 ∨ (r m).blk.inBitWait ∧ ∃ a d, Wasted r xs vs m w a d

section
variable {r : Nat → State} {xs : Nat → Input} {vs : Nat → Bool} {K total m w : Nat}

/-- A step in the same STATE lengthens the wait, by a wrong sample if it takes one. -/
theorem Wasted.step {a d : Nat} (h : Wasted r xs vs m w a d) (hs : (r (m + 1)).blk.state = (r m).blk.state) :
    Wasted r xs vs (m + 1) (w + if xs m = .engine ∧ vs m = (r m).blk.wrongLevel then 1 else 0) a (d + 1) := by
  obtain ⟨rfl, hsince, rfl⟩ := h
  refine ⟨rfl, fun k hk => ?_, ?_⟩
  · rw [hs]
    rcases Nat.lt_succ_iff_lt_or_eq.1 hk with hlt | rfl
    · exact hsince k hlt
    · rfl
  · rw [samplesSeen, Block.wrongLevel, Block.wrongLevel, hs]

theorem OnSchedule.wasted (h : OnSchedule r xs vs K total m w) : ∃ a d, Wasted r xs vs m w a d := by
  rcases h.wait with rfl | ⟨-, hw⟩
  · exact ⟨m, 0, rfl, by simp, rfl⟩
  · exact hw

/-- On a responsive line the wrong samples of a wait are fewer than the phase may cost. -/
theorem OnSchedule.lt_phaseCost {n : Nat} (h : OnSchedule r xs vs K total m w) (hresp : Responsive r xs vs K n)
    (hm : m ≤ n) (hK : 1 ≤ K) : w < (r m).blk.phaseCost K := by
  rcases h.wait with rfl | ⟨hbit, a, d, rfl, hsince, rfl⟩
  · rw [Block.phaseCost]
    split <;> omega
  · rw [Block.phaseCost_bitWait hbit]
    obtain ⟨hhigh, hlow⟩ := hresp a d hm
    rcases hbit with hs | hs <;> rw [Block.wrongLevel, hs]
    · exact hhigh fun k hk => (hsince k hk).trans hs
    · exact hlow fun k hk => (hsince k hk).trans hs

/-- A step of a transaction on a responsive line keeps the schedule. -/
theorem OnSchedule.step {n : Nat} (h : OnSchedule r xs vs K total m w)
    (hstep : step ((r m).feed (xs m) (vs m)) = .next (r (m + 1))) (hx : xs m ≠ .reset) (hinv : (r m).blk.Inv)
    (hb : (r m).blk.state ≠ St.idle) (hresp : Responsive r xs vs K n) (hm : m ≤ n) (hK : 1 ≤ K) :
    ∃ w', OnSchedule r xs vs K total (m + 1) w' := by
  have hlt := h.lt_phaseCost hresp hm hK
  have hns := step_feed_not_start hstep hx hinv hb h.notStart
  have hwithin := h.within
  obtain ⟨a, d, hw⟩ := h.wasted
  by_cases he : xs m = .engine
  · rw [he] at hstep
    obtain ⟨i, hi, e⟩ := step_feed_engine_next hstep
    rcases engine_progress (K := K) hinv hi hb (vs m) with ⟨⟨hs, -⟩ | hang, hsame⟩ | hused
    · exact absurd hs h.notStart
    · rw [hsame] at e
      have hw' := hw.step (by rw [e])
      rw [if_pos ⟨he, hang.eq_wrongLevel⟩] at hw'
      refine ⟨w + 1, hns, ?_, .inr ⟨e ▸ hang.inBitWait, a, d + 1, hw'⟩⟩
      rw [e, inputCount_same he]
      omega
    · refine ⟨0, hns, ?_, .inl rfl⟩
      rw [e, inputCount_same he]
      omega
  · obtain ⟨hs, hleft⟩ := step_feed_other hstep hx hb he K
    have hw' := hw.step hs
    rw [if_neg (fun hc => he hc.1)] at hw'
    refine ⟨w, hns, ?_, h.wait.imp id fun ⟨hbit, _⟩ => ⟨?_, a, d + 1, hw'⟩⟩
    · rw [hleft, inputCount_other he]
      exact hwithin
    · rwa [Block.inBitWait, hs]

/-- A transaction on a responsive line is on schedule for as long as it lasts. -/
theorem Run.onSchedule {n : Nat} (hrun : Run r xs vs n) (hinv : (r 0).blk.Inv) (hreset : ∀ k, k < n → xs k ≠ .reset)
    (hbusy : ∀ k, k ≤ n → (r k).blk.state ≠ St.idle) (hresp : Responsive r xs vs K n) (hK : 1 ≤ K)
    (h0 : (r 0).blk.state ≠ St.start) (hm : m ≤ n) : ∃ w, OnSchedule r xs vs K ((r 0).blk.stepsLeft K) m w := by
  induction m with
  | zero => exact ⟨0, h0, le_rfl, .inl rfl⟩
  | succ m ih =>
    obtain ⟨w, h⟩ := ih (by omega)
    exact h.step (hrun m hm) (hreset m hm) (hrun.inv hinv (by omega)) (hbusy m (by omega)) hresp (by omega) hK

end

/-! ### The obligations of the laws of a transaction -/

/-- What holds at some step but not at the first holds from one step to the next for the first time. -/
theorem exists_first {p : Nat → Prop} [DecidablePred p] (h0 : ¬ p 0) (h : ∃ n, p n) :
    ∃ m, (∀ k, k ≤ m → ¬ p k) ∧ p (m + 1) := by
  obtain ⟨m, hm⟩ := Nat.exists_eq_succ_of_ne_zero (mt (Nat.find_eq_zero h).1 h0)
  have hfirst : p (m + 1) := by
    rw [← Nat.succ_eq_add_one, ← hm]
    exact Nat.find_spec h
  exact ⟨m, fun k hk => Nat.find_min h (by omega), hfirst⟩

/-- Settles O47: with as many ENGINE steps as the phases may cost a transaction would be off its schedule. -/
theorem responsiveLineBoundsTheTransaction : Obligations.ResponsiveLineBoundsTheTransaction := by
  intro r xs vs n K hrun hinv hs hpolls hreset hK hresp htotal
  by_contra hnone
  have hbusy (k : Nat) (hk : k ≤ n) : (r k).blk.state ≠ St.idle := fun he => hnone ⟨k, hk, he⟩
  obtain ⟨w, h⟩ := hrun.onSchedule hinv hreset hbusy hresp hK (by simp [hs]) le_rfl
  have hcost := h.lt_phaseCost hresp le_rfl hK
  have hleft := (hrun.inv hinv le_rfl).phaseCost_le_stepsLeft (K := K) (hbusy n le_rfl)
  have hwithin := h.within
  rw [Block.stepsLeft_ackA hs, hpolls] at hwithin
  omega

/-- Settles O48: a transaction that stays in START would hang in a bit wait; START leads to ACK_A. -/
theorem startEndsInEveryFairRun : Obligations.StartEndsInEveryFairRun := by
  intro r xs vs hrun hfair hreset hinv h0
  have hleaves : ∃ n, (r n).blk.state ≠ St.start := by
    by_contra hnone
    simp only [not_exists, ne_eq, not_not] at hnone
    rcases hrun.hangs hfair hreset hinv (fun k => by simp [hnone k]) with ⟨n, hn⟩ | ⟨n, hn⟩ <;>
      exact absurd ((hnone n).symm.trans (hn n le_rfl)) (by decide)
  obtain ⟨m, hbefore, hm⟩ := exists_first (p := fun k => (r k).blk.state ≠ St.start) (by simp [h0]) hleaves
  simp only [ne_eq, not_not] at hbefore
  exact ⟨m, hbefore, step_feed_start (hrun m) (hreset m) (hbefore m le_rfl) hm⟩

/-- Settles O46: a transaction that never ends hangs, and one that ends does so by DONE or ERROR. -/
theorem everyTransactionEndsOrHangsInABitWait : Obligations.EveryTransactionEndsOrHangsInABitWait := by
  intro r xs vs s hrun hfair hreset hinv hs hinit hread
  have hinv0 : (r 0).blk.Inv := (exec_next hread).1 ▸ hinv.blockEffect (i := .wrRead) _ (by simp [encode])
  have h0 : (r 0).blk.state = St.start := by
    rw [exec_wrRead_idle hs, Block.startRead_accepted hinit] at hread
    rw [← Host.Outcome.next.inj hread]
    rfl
  by_cases hends : ∃ n, (r n).blk.state = St.idle
  · obtain ⟨m, hbusy, hm⟩ := exists_first (p := fun k => (r k).blk.state = St.idle) (by simp [h0]) hends
    exact .inl ⟨m + 1, fun k hk => hbusy k (Nat.le_of_lt_succ hk), hm,
      step_feed_ends (hrun m) (hreset m) ((hrun.run m).inv hinv0 le_rfl) (hbusy m le_rfl) hm⟩
  · exact .inr (hrun.hangs hfair hreset hinv0 fun k hk => hends ⟨k, hk⟩)

end Sys2Proof.Machine
